-- ==== Sys2Proof/Word.lean ====
section
/-! DEFINITION. Plain names for the part's small types, and its plainest arithmetic (spec 00 section 5.2). -/

namespace Sys2Proof

/-- A byte of the window or of a frame. -/
abbrev Byte := BitVec 8

/-- A site mask of 16 bits, bit n naming site n (spec 12.1). -/
abbrev SiteMask := BitVec 16

/-- A site of the head, 0..15. -/
abbrev Site := Fin 16

/-- A station of the mainframe link, 0..7. -/
abbrev Station := Fin 8

/-- A sync group, 0..3. -/
abbrev Group := Fin 4

/-- The quotient rounded up (spec 00 section 5.2). -/
def ceilDiv (a b : Nat) : Nat := (a + b - 1) / b

/-- `a + b`, staying at `cap` when the sum would pass it (spec 00 section 5.2). -/
def satAdd (cap a b : Nat) : Nat := min cap (a + b)

end Sys2Proof
end

