-- ==== Sys2Proof/Syntax.lean ====
section
/-! DEFINITION. The commands of the part: one constructor for each row of spec/opcode_table.json, with what the rules say the event carries. -/

namespace Sys2Proof

/-- The strap positions a reset reads (R134): three station straps and ten budget straps. -/
structure Straps where
  station : Station
  budget : BitVec 10
  deriving DecidableEq, Repr

/-- The levels of ALERT and RAIL-FAIL as the Alert Monitor reads them after a reset (R168); true is asserted. -/
structure Lines where
  alert : Bool
  railFail : Bool
  deriving DecidableEq, Repr

/-- One entry of a RESULT (R13): a failing site, its fail bits and the offset of the first failing byte. -/
structure ResultEntry where
  site : Site
  failBits : BitVec 16
  offset : BitVec 32
  deriving DecidableEq, Repr

/-- The commands. A carried frame holds its sender and its payload fields at their wire widths (section 12.2). -/
inductive Instr where
  /-- POWER_ON_RESET (R2). -/
  | powerOnReset (straps : Straps) (lines : Lines)
  /-- BACKPLANE_RESET (R2). -/
  | backplaneReset (straps : Straps) (lines : Lines)
  /-- POST_FIRST_BYTE (R178). -/
  | postFirstByte (value : Byte)
  /-- POST (R178): the second byte of the post cell. -/
  | post (value : Byte)
  /-- ATTENTION_FIRST_BYTE (R185). -/
  | attentionFirstByte (value : Byte)
  /-- ATTENTION_ACKNOWLEDGE (R185): the second byte of the attention cell. -/
  | attentionAcknowledge (value : Byte)
  /-- WINDOW_WRITE (R177). -/
  | windowWrite (offset : Nat) (value : Byte)
  /-- SET_PROFILE (R26): the CWC serves its next block, a SET-PROFILE. The same reading holds for the served commands below. -/
  | setProfile
  /-- DEFINE_STEP (R34). -/
  | defineStep
  /-- DELETE_STEPS (R37). -/
  | deleteSteps
  /-- RUN (R61). -/
  | run
  /-- SET_STOP_OPTION (R170). -/
  | setStopOption
  /-- SITE_RESTORE (R7). -/
  | siteRestore
  /-- CLEAR_RESULTS (R111). -/
  | clearResults
  /-- READ_STATUS (R187). -/
  | readStatus
  /-- READ_SITE (R113). -/
  | readSite
  /-- READ_FAIL_LOG (R114). -/
  | readFailLog
  /-- REWIND_LOG (R115). -/
  | rewindLog
  /-- READ_BAD_BLOCKS (R116). -/
  | readBadBlocks
  /-- READ_RESULT (R76). -/
  | readResult
  /-- READ_PEERS (R135). -/
  | readPeers
  /-- SNAPSHOT (R97). -/
  | snapshot
  /-- READ_SNAPSHOT (R98). -/
  | readSnapshot
  /-- PAUSE (R77). -/
  | pause
  /-- RESUME (R80). -/
  | resume
  /-- ABORT (R82). -/
  | abort
  /-- RAISE_ALERT (R173). -/
  | raiseAlert
  /-- CLEAR_ALERT (R174). -/
  | clearAlert
  /-- CARD_RESET (R188); every reset reads the straps (R134). -/
  | cardReset (straps : Straps)
  /-- CONTACT (R3): the contact mask. -/
  | contact (mask : SiteMask)
  /-- ACCEPT (R12). -/
  | accept
  /-- RESULT (R13): the entries in the order received. -/
  | result (entries : List ResultEntry)
  /-- READY (R16): the sites named, and the whole ticks since the event before. DESIGN CHOICE: the ticks are the model's (log 4). -/
  | ready (mask : SiteMask) (elapsed : Nat)
  /-- ALARM_SITE_OVERCURRENT (R17). -/
  | alarmSiteOvercurrent (site : Site)
  /-- ALARM_HEAD_FAULT (R18). -/
  | alarmHeadFault
  /-- REPLY_DEADLINE (R20). -/
  | replyDeadline
  /-- HIGH_LIMIT_EXPIRY (R91). -/
  | highLimitExpiry (site : Site)
  /-- DWELL_EXPIRY (R69). -/
  | dwellExpiry
  /-- SYNC_TIMEOUT (R163). -/
  | syncTimeout
  /-- SUPPLY_WAIT_EXPIRY (R66). -/
  | supplyWaitExpiry
  /-- RESUME_GUARD_EXPIRY (R81). -/
  | resumeGuardExpiry
  /-- ROLL_WINDOW_EXPIRY (R126). -/
  | rollWindowExpiry
  /-- FRAME_START (R119). -/
  | frameStart
  /-- ARBITRATION_LOST (R122). -/
  | arbitrationLost
  /-- FRAME_VOID (R120). -/
  | frameVoid
  /-- A carried RELEASE (R142). -/
  | release (station : Station) (units : BitVec 16)
  /-- A carried WITHDRAW (R143). -/
  | withdraw (station : Station)
  /-- A carried LEAVE (R158). -/
  | leave (station : Station) (group : Byte)
  /-- A carried STATE (R131). -/
  | state (station : Station) (held : BitVec 12) (budget : BitVec 12)
  /-- A carried ROLL (R129). -/
  | roll (station : Station) (budget : BitVec 16)
  /-- A carried MARK (R158). -/
  | mark (station : Station) (group : Byte) (mark : Byte)
  /-- A carried WAIT (R143). -/
  | wait (station : Station) (need : BitVec 16)
  /-- A carried CLAIM (R142). -/
  | claim (station : Station) (units : BitVec 16) (step : Byte)
  /-- ALERT_RISE (R171, R172). -/
  | alertRise
  /-- ALERT_FALL (R171). -/
  | alertFall
  /-- RAIL_FAIL (R175). -/
  | railFail
  /-- RAIL_FAIL_RELEASE (R175). -/
  | railFailRelease
  deriving DecidableEq, Repr

end Sys2Proof
end

