-- ==== Sys2Proof/Config.lean ====
section
/-! DEFINITION. The constants the manual fixes for every card, and the straps that `State.reset` reads. Times are in ticks of 10 µs. -/

namespace Sys2Proof.Config

/-- 100 ticks make 1 ms (spec 00 section 5.3). -/
def ticksPerMs : Nat := 100

/-- Reply deadline of CONTACT-CHECK: 5 ms (spec 01 section 1.3). -/
def contactDeadline : Nat := 500
/-- Reply deadline of OPERATE, DROP and ABANDON: 2 ms (spec 01 section 1.3). -/
def acceptDeadline : Nat := 200
/-- Reply deadline of COMPARE: 100 ms (spec 01 section 1.3). -/
def compareDeadline : Nat := 10000
/-- The roll window: 30 ms (R126). -/
def rollWindow : Nat := 3000
/-- The resume guard: 20 ms (R81). -/
def resumeGuard : Nat := 2000

/-- Places of the urgent queue (R179). -/
def urgentPlaces : Nat := 4
/-- Places of the plan queue (R179). -/
def planPlaces : Nat := 8
/-- Records a fail log holds (R103). -/
def logPlaces : Nat := 32
/-- Blocks a bad-block set holds (R107). -/
def badBlockPlaces : Nat := 64
/-- Objections that make the link MUTE (R123). -/
def objectionLimit : Nat := 8
/-- Milliamperes of one rail unit (R138). -/
def railUnit : Nat := 25
/-- The least rail budget: a lower strap or announced value is taken as this (R133). -/
def leastBudget : Nat := 8

/-- First offset of the block and buffer area (R177). -/
def areaFirst : Nat := 0x100
/-- The window's size, one past its last offset (R177). -/
def windowSize : Nat := 0x1000

/-- The station strap that `State.reset` reads. DESIGN CHOICE, unsafe: the spec gives no strap position (log 5). -/
def resetStation : Station := 0
/-- The budget strap that `State.reset` reads. DESIGN CHOICE, unsafe: the spec gives no strap position (log 5). -/
def resetBudget : BitVec 10 := 64

end Sys2Proof.Config
end

