-- ==== Sys2Proof/Machine/State.lean ====
section
/-! DEFINITION. The state of the card, block by block (spec 00 section 3.1), plain data; the reasons a step can stop; the machine right after reset. -/

namespace Sys2Proof.Machine

/-! ## Names the rules give -/

/-- Site states (R1). -/
inductive SiteState where
  | vacant | active | retired | done | tripped
  deriving DecidableEq, Repr

/-- Granules (R23). -/
inductive Granule where
  | page | sector | block | device
  deriving DecidableEq, Repr

/-- The step kinds that have an address part (R27). -/
inductive AddrKind where
  | erase | program | verify
  deriving DecidableEq, Repr

/-- Directions of an address part (R28). -/
inductive Direction where
  | up | down
  deriving DecidableEq, Repr

/-- Data modes (R30). -/
inductive DataMode where
  | solid | alternate | address | erased
  deriving DecidableEq, Repr

/-- Fail actions (R32). -/
inductive FailAction where
  | retire | logOnly
  deriving DecidableEq, Repr

/-- Timeout actions of a SYNC step (R33). -/
inductive TimeoutAction where
  | proceed | endRun
  deriving DecidableEq, Repr

/-- Kinds of failure (R100). -/
inductive FailKind where
  | compare | slow | fast | alarm
  deriving DecidableEq, Repr

/-- Stop options (R170). -/
inductive StopOption where
  | shutdown | ignore
  deriving DecidableEq, Repr

/-- Sequencer states (R58). -/
inductive SeqState where
  | idle | running | pausing | paused
  deriving DecidableEq, Repr

/-- Phases of a run (section 4.1). -/
inductive Phase where
  | entry | supply | operate | compare | dwell | sync | exit
  deriving DecidableEq, Repr

/-- End causes of a run (R72). -/
inductive EndCause where
  | complete | aborted | stopped | halted | syncTimeout | supplyWaitTimeout | supplyRange | headLink | headFault
  | linkMute | noSites | cardReset
  deriving DecidableEq, Repr

/-- Link states (section 7.4). -/
inductive LinkState where
  | rolling | up | mute | off
  deriving DecidableEq, Repr

/-- The station's own standing on the rail (R136). -/
inductive RailState where
  | none | waiting | holding
  deriving DecidableEq, Repr

/-- Kinds of head cable request (section 1.3). -/
inductive RequestKind where
  | contactCheck | operate | compare | drop | abandon
  deriving DecidableEq, Repr

/-- Kinds of reply (section 1.3). -/
inductive ReplyKind where
  | contact | accept | result
  deriving DecidableEq, Repr

/-- Frame kinds, in the order of their codes 1..8 (R118). -/
inductive FrameKind where
  | release | withdraw | leave | state | roll | mark | wait | claim
  deriving DecidableEq, Repr

/-! ## Plan Store -/

/-- The data part of a step (R30), passed through to the PEU. -/
structure DataPart where
  mode : DataMode
  seed : Byte
  deriving DecidableEq, Repr

/-- A pair of busy limits in ticks (R31). -/
structure Limits where
  low : Nat
  high : Nat
  deriving DecidableEq, Repr

/-- The address part of a step (R28). The stride, direction and wrap width of a DEVICE step are not read and stand at 0, UP and 0. -/
structure AddrPart where
  granule : Granule
  base : Nat
  count : Nat
  stride : Nat
  dir : Direction
  wrap : Nat
  repeats : Nat
  deriving DecidableEq, Repr

/-- A step record: a kind and the parts of that kind, no others (R27). -/
inductive StepRecord where
  | erase (addr : AddrPart) (limits : Option Limits) (bin : Nat) (action : FailAction)
  | program (addr : AddrPart) (data : DataPart) (limits : Option Limits) (bin : Nat) (action : FailAction)
  | verify (addr : AddrPart) (data : DataPart) (bin : Nat) (includeRetired : Bool)
  | dwell (time : Nat)
  | sync (timeout : Nat) (action : TimeoutAction)
  deriving DecidableEq, Repr

/-- The DUT profile (R22). Each exclusion window is a pair first block, last block. -/
structure Profile where
  p : Nat
  s : Nat
  b : Nat
  c : Nat
  eraseDraw : Nat
  programDraw : Nat
  eraseLimits : Limits
  programLimits : Limits
  allowance : Nat
  passBin : Nat
  tripBin : Nat
  shareLimit : Nat
  supplyLimit : Nat
  windows : List (Nat × Nat)
  deriving DecidableEq, Repr

/-- The Plan Store: profile, step table and stop option. -/
structure PlanStore where
  profile : Option Profile
  steps : Vector (Option StepRecord) 128
  stopOption : StopOption
  deriving DecidableEq, Repr

/-! ## Command Window Controller -/

/-- A posted command block: its offset, and the 64 bytes copied at the post (R178). -/
structure Block where
  offset : Nat
  bytes : List Byte
  deriving DecidableEq, Repr

/-- The Command Window Controller. `mem` lists the bytes of the block and buffer area that are not 0. -/
structure Cwc where
  mem : List Host.Cell
  postCell : BitVec 16
  postHeld : Byte
  attentionHeld : Byte
  attention : Nat
  badPosts : Nat
  urgent : List Block
  plan : List Block
  outRun : Option Block
  outPause : Option Block
  outAbort : Option Block
  deriving DecidableEq, Repr

/-! ## Head cable -/

/-- A request of the card to the PEU (section 1.3). The granule of OPERATE and COMPARE goes with the size of one unit as a
power of two bytes (R23); an ERASE carries no data part (R12). -/
inductive Request where
  | contactCheck
  | operate (granule : Granule) (size : Nat) (unit : Nat) (mask : SiteMask) (data : Option DataPart)
  | compare (granule : Granule) (size : Nat) (unit : Nat) (mask : SiteMask) (data : DataPart)
  | drop (mask : SiteMask)
  | abandon
  deriving DecidableEq, Repr

/-- The outstanding request and what remains of its reply deadline, in ticks (R10). -/
structure Outstanding where
  request : Request
  deadline : Nat
  deriving DecidableEq, Repr

/-- The head link error record (R20). -/
structure HeadError where
  request : RequestKind
  awaited : ReplyKind
  step : Option Nat
  rep : Option Nat
  unit : Option Nat
  deriving DecidableEq, Repr

/-- The Head Cable Interface (R10, R21); it is IDLE when nothing is outstanding. `cable` is the request it last sent. -/
structure Hci where
  outstanding : Option Outstanding
  held : Option Request
  pendingDrop : SiteMask
  strays : Nat
  err : Option HeadError
  cable : Option Request
  deriving DecidableEq, Repr

/-! ## Sites and busy timers -/

/-- One fail record (R100). -/
structure FailRec where
  step : Nat
  rep : Nat
  granule : Granule
  unit : Nat
  kind : FailKind
  value : Nat
  offset : Option (BitVec 32)
  deriving DecidableEq, Repr

/-- The step statistics of a site (R90). -/
structure Stats where
  min : Nat
  max : Nat
  sum : Nat
  count : Nat
  deriving DecidableEq, Repr

/-- One site record (R1), with the unit-failed mark of R102. -/
structure SiteRec where
  state : SiteState
  bin : Nat
  busy : Bool
  stats : Stats
  log : List FailRec
  cursor : Nat
  overflow : Nat
  failUnits : Nat
  failBits : Nat
  badBlocks : List Nat
  unitFailed : Bool
  deriving DecidableEq, Repr

/-- The timed step and what the Busy Timer Array loads with it (R84, R86). -/
structure TimedStep where
  step : Nat
  limits : Limits
  action : FailAction
  bin : Nat
  deriving DecidableEq, Repr

/-- A snapshot record without its source (R96). -/
structure Snapshot where
  seq : SeqState
  phase : Phase
  step : Option Nat
  rep : Nat
  pass : Nat
  unit : Option Nat
  busy : Vector Bool 16
  values : Vector Nat 16
  deriving DecidableEq, Repr

/-- The Busy Timer Array (R84). -/
structure TimerArray where
  values : Vector Nat 16
  running : Vector Bool 16
  timed : Option TimedStep
  latch : Option Snapshot
  deriving DecidableEq, Repr

/-! ## Unit Address Generator -/

/-- The loaded fields of the UAG (R40, R42). -/
structure UagLoad where
  kind : AddrKind
  granule : Granule
  g : Nat
  w : Nat
  h : Nat
  e : Nat
  dir : Direction
  count : Nat
  repeats : Nat
  base : Nat
  deriving DecidableEq, Repr

/-- The Unit Address Generator (R40): load state, loaded fields and position. -/
structure Uag where
  loaded : Bool
  load : UagLoad
  r : Nat
  v : Nat
  u : Option Nat
  ended : Bool
  deriving DecidableEq, Repr

/-! ## Run Sequencer -/

/-- What the unit in flight was asked for with. An OPERATE's unit also knows whether its ACCEPT has been taken (R9). -/
inductive UnitKind where
  | operate (accepted : Bool)
  | compare
  deriving DecidableEq, Repr

/-- The unit in flight (R52): its step, repeat, granule and unit, and the sites still in it (R17). -/
structure Flight where
  kind : UnitKind
  step : Nat
  rep : Nat
  granule : Granule
  unit : Nat
  mask : SiteMask
  deriving DecidableEq, Repr

/-- Where in its phase a run stands. DESIGN CHOICE (log 23): the rules say each of these points in words. -/
inductive Stage where
  /-- no run -/
  | idle
  /-- ENTRY: the CONTACT reply is awaited (R62, step 2) -/
  | contact
  /-- ENTRY: the step of this index is to be entered (R63) -/
  | enter (k : Nat)
  /-- ENTRY: the step is entered and its first phase is about to begin (R78) -/
  | begin
  /-- the next pass is to be started (R65) -/
  | passStart
  /-- the pass re-enters SUPPLY; true when the pause was taken in SUPPLY itself (R66) -/
  | reenter (fromSupply : Bool)
  /-- SUPPLY: the claim of the pass is awaited -/
  | supply
  /-- OPERATE or COMPARE: visits are produced and resolved (R67) -/
  | visits
  /-- the pass has ended and its RELEASE is awaited before the next pass (R68) -/
  | closing
  /-- DWELL (R69) -/
  | dwell
  /-- SYNC (R70) -/
  | sync
  /-- EXIT: the exit is completed when no RELEASE is awaited (R71) -/
  | exit
  deriving DecidableEq, Repr

/-- How far the teardown of an ending run has gone: step 1 of R73, or the carrying of the frames of its steps 2 and 3. -/
inductive Teardown where
  | abandon | frames
  deriving DecidableEq, Repr

/-- A resume point: a phase and a pass (R59). -/
structure ResumePoint where
  phase : Phase
  pass : Nat
  deriving DecidableEq, Repr

/-- The result record (R76). -/
structure ResultRec where
  cause : EndCause
  lastStep : Option Nat
  rep : Option Nat
  unit : Option Nat
  stepsCompleted : Nat
  laggards : BitVec 8
  alertCount : Nat
  err : Option HeadError
  bins : Vector Nat 16
  states : Vector SiteState 16
  deriving DecidableEq, Repr

/-- The Run Sequencer: state, run record (R59) and result record. Remaining times are in ticks. `record` is the step record taken
at step entry (R63); `stage`, `teardown` and `restarted` are the model's control fields (log 23). -/
structure Run where
  seq : SeqState
  phase : Phase
  stage : Stage
  first : Nat
  last : Nat
  group : Option Group
  current : Option Nat
  record : Option StepRecord
  passes : Nat
  passSize : Nat
  members : List SiteMask
  pass : Nat
  passDemand : Nat
  restarted : Bool
  resume : Option ResumePoint
  stepsCompleted : Nat
  produced : Nat
  issued : Nat
  excluded : Nat
  noSite : Nat
  dwellRem : Nat
  syncRem : Option Nat
  supplyRem : Option Nat
  heldPause : Bool
  heldSyncPass : Bool
  guardRem : Nat
  ending : Option EndCause
  teardown : Teardown
  inflight : Option Flight
  result : Option ResultRec
  deriving DecidableEq, Repr

/-! ## Link, rail, sync and alert -/

/-- A frame of this station, less its station number (R118). -/
inductive Frame where
  | release (units : Nat)
  | withdraw
  | leave (group : Group)
  | state (held budget : Nat)
  | roll (budget : Nat)
  | mark (group : Group) (mark : Nat)
  | wait (need : Nat)
  | claim (units : Nat) (step : Nat)
  deriving DecidableEq, Repr

/-- The outgoing set: at most one frame of each kind (R121). The payloads of STATE and ROLL are the card's own figures (R126, R131). -/
structure Outgoing where
  release : Option Nat
  withdraw : Bool
  leave : Option Group
  state : Bool
  roll : Bool
  mark : Option (Group × Nat)
  wait : Option Nat
  claim : Option (Nat × Nat)
  deriving DecidableEq, Repr

/-- A frame of this station on the line, its payload fixed at the frame start; `replaced` is set when its owner hands over
another frame of the kind meanwhile (R121). -/
structure Attempt where
  frame : Frame
  replaced : Bool
  deriving DecidableEq, Repr

/-- The Link Controller (R134), less its fields of the peer table. -/
structure Link where
  own : Station
  ownBudget : Nat
  st : LinkState
  rollWindow : Option Nat
  out : Outgoing
  attempt : Option Attempt
  objections : Nat
  effBudget : Nat
  deriving DecidableEq, Repr

/-- An entry of the peer table (R132). -/
structure Peer where
  present : Bool
  budget : Option Nat
  held : Nat
  need : Option Nat
  group : Option Group
  lastMark : Option Nat
  deriving DecidableEq, Repr

/-- The Rail Share Unit (R136), less its fields of the peer table. -/
structure Rail where
  st : RailState
  ownDemand : Option Nat
  seeking : Bool
  givingUp : Bool
  kept : Option Nat
  waiters : List Station
  deriving DecidableEq, Repr

/-- The Sync Unit (R156), less its fields of the peer table; it is WAITING when a mark is awaited. `markCarried` says that the own MARK for
the awaited mark has been carried, which R163 asks at the timeout. -/
structure SyncUnit where
  ownGroup : Option Group
  markCount : Nat
  awaited : Option Nat
  markCarried : Bool
  laggards : BitVec 8
  deriving DecidableEq, Repr

/-- The Alert Monitor (R167); the ALERT drive follows from the latches and the card state. -/
structure AlertMonitor where
  halted : Bool
  headFault : Bool
  raised : Bool
  level : Bool
  railFail : Bool
  count : Nat
  deriving DecidableEq, Repr

/-! ## The state -/

/-- The card: its functional blocks, the peer table they share, and the queue of commands that wait to be taken. -/
structure State where
  pending : List Instr
  cwc : Cwc
  store : PlanStore
  run : Run
  uag : Uag
  hci : Hci
  sites : Vector SiteRec 16
  timers : TimerArray
  link : Link
  peers : Vector Peer 8
  rail : Rail
  sync : SyncUnit
  alert : AlertMonitor
  deriving DecidableEq, Repr

/-- Why the machine stops with a fault. -/
inductive Fault where
  /-- Raised by WINDOW_WRITE for an offset outside the 4096-byte window (R177): there is no such byte. Safe: nothing is claimed after it. -/
  | windowOffset
  deriving DecidableEq, Repr

/-- Why a command is refused. -/
inductive Refusal where
  /-- Raised by `exec` for a command without a meaning yet. Safe: nothing is claimed after it. -/
  | notModelled (mnemonic : String)
  deriving DecidableEq, Repr

/-! ## Reset values -/

/-- Reset values of the CWC and its window (R177, R189). -/
def Cwc.reset : Cwc :=
  { mem := [], postCell := 0, postHeld := 0, attentionHeld := 0, attention := 0, badPosts := 0, urgent := [], plan := []
    outRun := none, outPause := none, outAbort := none }

/-- Reset values of the Plan Store (R39). -/
def PlanStore.reset : PlanStore := { profile := none, steps := Vector.replicate 128 none, stopOption := .shutdown }

/-- Reset values of the Run Sequencer (R60). -/
def Run.reset : Run :=
  { seq := .idle, phase := .entry, stage := .idle, first := 0, last := 0, group := none, current := none, record := none
    passes := 0, passSize := 0, members := [], pass := 0, passDemand := 0, restarted := false, resume := none
    stepsCompleted := 0, produced := 0, issued := 0, excluded := 0, noSite := 0, dwellRem := 0, syncRem := some 0
    supplyRem := some 0, heldPause := false, heldSyncPass := false, guardRem := 0, ending := none, teardown := .abandon
    inflight := none, result := none }

/-- The loaded fields before any step has been loaded: meaningless while UNLOADED (R40). DESIGN CHOICE (log 18). -/
def UagLoad.blank : UagLoad :=
  { kind := .verify, granule := .device, g := 0, w := 0, h := 0, e := 0, dir := .up, count := 0, repeats := 0, base := 0 }

/-- The UAG before any step has been loaded: the values of R41, and blank loaded fields. -/
def Uag.reset : Uag := { loaded := false, load := UagLoad.blank, r := 0, v := 0, u := none, ended := false }

/-- Reset values of the HCI (R21). -/
def Hci.reset : Hci := { outstanding := none, held := none, pendingDrop := 0, strays := 0, err := none, cable := none }

/-- Statistics at zero (R86). -/
def Stats.zero : Stats := { min := 0, max := 0, sum := 0, count := 0 }

/-- Reset values of a site record (R2, R110). -/
def SiteRec.reset : SiteRec :=
  { state := .vacant, bin := 0, busy := false, stats := Stats.zero, log := [], cursor := 0, overflow := 0, failUnits := 0
    failBits := 0, badBlocks := [], unitFailed := false }

/-- Reset values of the Busy Timer Array (R85). -/
def TimerArray.reset : TimerArray :=
  { values := Vector.replicate 16 0, running := Vector.replicate 16 false, timed := none, latch := none }

/-- The empty outgoing set. -/
def Outgoing.empty : Outgoing :=
  { release := none, withdraw := false, leave := none, state := false, roll := false, mark := none, wait := none, claim := none }

/-- A budget below 8 is taken as 8 (R133). -/
def clampBudget (b : Nat) : Nat := max Config.leastBudget b

/-- Reset values of the Link Controller, from the straps (R134). -/
def Link.reset (straps : Straps) : Link :=
  { own := straps.station, ownBudget := clampBudget straps.budget.toNat, st := .rolling, rollWindow := none
    out := { Outgoing.empty with roll := true }, attempt := none, objections := 0, effBudget := clampBudget straps.budget.toNat }

/-- A peer-table entry that is not present (R132). -/
def Peer.absent : Peer := { present := false, budget := none, held := 0, need := none, group := none, lastMark := none }

/-- The peer table after a reset: the own entry present with the own budget (R134, R137, R157). -/
def peersReset (straps : Straps) : Vector Peer 8 :=
  (Vector.replicate 8 Peer.absent).set straps.station
    { Peer.absent with present := true, budget := some (clampBudget straps.budget.toNat) }

/-- Reset values of the Rail Share Unit (R137). -/
def Rail.reset : Rail := { st := .none, ownDemand := none, seeking := false, givingUp := false, kept := none, waiters := [] }

/-- Reset values of the Sync Unit (R157). -/
def SyncUnit.reset : SyncUnit := { ownGroup := none, markCount := 0, awaited := none, markCarried := false, laggards := 0 }

/-- Reset values of the Alert Monitor, less the two levels it then reads (R168). -/
def AlertMonitor.reset (lines : Lines) : AlertMonitor :=
  { halted := false, headFault := false, raised := false, level := lines.alert, railFail := lines.railFail, count := 0 }

/-- Every block at its power-on values, with the straps and lines read, before a RAIL-FAIL found asserted acts (R2, R168). -/
def State.powerOn (straps : Straps) (lines : Lines) : State :=
  { pending := [], cwc := Cwc.reset, store := PlanStore.reset, run := Run.reset, uag := Uag.reset, hci := Hci.reset
    sites := Vector.replicate 16 SiteRec.reset, timers := TimerArray.reset, link := Link.reset straps
    peers := peersReset straps, rail := Rail.reset, sync := SyncUnit.reset, alert := AlertMonitor.reset lines }

/-- The card right after power-on reset, with the straps of Config and both lines released (log 5, log 6). -/
def State.reset : State :=
  State.powerOn { station := Config.resetStation, budget := Config.resetBudget } { alert := false, railFail := false }

/-! ## One setter per block -/

/-- `s` with its queue replaced. -/
def State.withPending (s : State) (x : List Instr) : State := { s with pending := x }
/-- `s` with its CWC replaced. -/
def State.withCwc (s : State) (x : Cwc) : State := { s with cwc := x }
/-- `s` with its Plan Store replaced. -/
def State.withStore (s : State) (x : PlanStore) : State := { s with store := x }
/-- `s` with its Run Sequencer replaced. -/
def State.withRun (s : State) (x : Run) : State := { s with run := x }
/-- `s` with its UAG replaced. -/
def State.withUag (s : State) (x : Uag) : State := { s with uag := x }
/-- `s` with its HCI replaced. -/
def State.withHci (s : State) (x : Hci) : State := { s with hci := x }
/-- `s` with its site records replaced. -/
def State.withSites (s : State) (x : Vector SiteRec 16) : State := { s with sites := x }
/-- `s` with its Busy Timer Array replaced. -/
def State.withTimers (s : State) (x : TimerArray) : State := { s with timers := x }
/-- `s` with its Link Controller replaced. -/
def State.withLink (s : State) (x : Link) : State := { s with link := x }
/-- `s` with its peer table replaced. -/
def State.withPeers (s : State) (x : Vector Peer 8) : State := { s with peers := x }
/-- `s` with its Rail Share Unit replaced. -/
def State.withRail (s : State) (x : Rail) : State := { s with rail := x }
/-- `s` with its Sync Unit replaced. -/
def State.withSync (s : State) (x : SyncUnit) : State := { s with sync := x }
/-- `s` with its Alert Monitor replaced. -/
def State.withAlert (s : State) (x : AlertMonitor) : State := { s with alert := x }

end Sys2Proof.Machine
end

