-- ==== Sys2Proof/Machine/Ops.lean ====
section
/-! DEFINITION. The shared operations over the window memory, the site records, the peer table and the card's clocks. -/

namespace Sys2Proof.Machine

/-! ## Fixed tables -/

/-- The table of `n` places whose place `i` holds `f i`. -/
def tabulate {α : Type} (n : Nat) (f : Fin n → α) : Vector α n := ⟨⟨List.ofFn f⟩, by simp⟩

/-- The mask naming the sites of which `f` holds. -/
def maskOf (f : Site → Bool) : SiteMask := (BitVec.ofBoolListLE (List.ofFn f)).setWidth 16

/-- Whether a mask names a site: bit n names site n. -/
def inMask (m : SiteMask) (i : Site) : Bool := m.getLsbD i

/-- A mask with one site taken out. -/
def dropSite (m : SiteMask) (i : Site) : SiteMask := maskOf fun j => inMask m j && j != i

/-- A mask with one site put in. -/
def addSite (m : SiteMask) (i : Site) : SiteMask := maskOf fun j => inMask m j || j == i

/-- All sixteen sites, ascending. -/
def allSites : List Site := List.finRange 16

/-- All eight stations, ascending. -/
def allStations : List Station := List.finRange 8

/-! ## Bytes, most significant byte first (R177) -/

/-- The low `n` bytes of a value, most significant first. -/
def beBytes : Nat → Nat → List Byte
  | 0, _ => []
  | n + 1, v => BitVec.ofNat 8 (v / 256 ^ n) :: beBytes n v

/-- The value of a list of bytes, most significant first. -/
def beValue (bs : List Byte) : Nat := bs.foldl (fun acc b => acc * 256 + b.toNat) 0

/-! ## The block and buffer area (R177) -/

/-- The byte a list of cells holds at an address; a byte not listed reads 0, the reset value of R177. -/
def memRead : List Host.Cell → Nat → Byte
  | [], _ => 0
  | (k, v) :: rest, a => if k = a then v else memRead rest a

/-- A byte stored into a sorted list of cells; storing 0 takes the cell out. -/
def memWrite : List Host.Cell → Nat → Byte → List Host.Cell
  | [], a, v => if v = 0 then [] else [(a, v)]
  | (k, w) :: rest, a, v =>
    if a < k then (if v = 0 then (k, w) :: rest else (a, v) :: (k, w) :: rest)
    else if a = k then (if v = 0 then rest else (a, v) :: rest)
    else (k, w) :: memWrite rest a v

/-- Whether an address lies in the block and buffer area. -/
def inArea (a : Nat) : Bool := decide (Config.areaFirst ≤ a ∧ a < Config.windowSize)

/-- The canonical form from an address on: rising addresses of the area, none below `lo`, no byte that is 0. -/
def Memory.wfFrom : Nat → List Host.Cell → Bool
  | _, [] => true
  | lo, (k, v) :: rest => decide (lo ≤ k) && inArea k && decide (v ≠ 0) && Memory.wfFrom (k + 1) rest

/-- The canonical form of the window memory: equal memories are equal lists. -/
def Memory.wf (m : List Host.Cell) : Bool := Memory.wfFrom 0 m

/-- What the block and buffer area holds at an address. -/
def readArea (s : State) (a : Nat) : Byte := memRead s.cwc.mem a

/-- A byte stored into the block and buffer area; a write elsewhere stores nothing (R177). -/
def writeArea (a : Nat) (v : Byte) (s : State) : State :=
  if inArea a then { s with cwc := { s.cwc with mem := memWrite s.cwc.mem a v } } else s

/-- Bytes stored one after another from an address on. -/
def writeBytes : Nat → List Byte → State → State
  | _, [], s => s
  | a, b :: bs, s => writeBytes (a + 1) bs (writeArea a b s)

/-- `n` bytes of the area from an address on. -/
def readBytes (s : State) (a n : Nat) : List Byte := (List.range n).map fun k => readArea s (a + k)

/-! ## Sites -/

/-- One site record changed by `f`. -/
def updSite (i : Site) (f : SiteRec → SiteRec) (s : State) : State :=
  { s with sites := s.sites.set i (f s.sites[i]) }

/-- Every site record changed by `f`. -/
def mapSites (f : SiteRec → SiteRec) (s : State) : State :=
  { s with sites := tabulate 16 fun i => f s.sites[i] }

/-- A site's busy flag and its timer's running flag cleared together (R84, R88); the timer stays at `v`. -/
def stopTimerAt (i : Site) (v : Nat) (s : State) : State :=
  { s with
    sites := s.sites.set i { s.sites[i] with busy := false }
    timers := { s.timers with values := s.timers.values.set i v, running := s.timers.running.set i false } }

/-- A site's busy flag set and its timer started at 0 (R9, R87). -/
def startTimer (i : Site) (s : State) : State :=
  { s with
    sites := s.sites.set i { s.sites[i] with busy := true }
    timers := { s.timers with values := s.timers.values.set i 0, running := s.timers.running.set i true } }

/-- Every busy flag and running flag cleared; the timers keep their values (R15, R88). -/
def stopAllTimers (s : State) : State :=
  { s with
    sites := tabulate 16 fun i => { s.sites[i] with busy := false }
    timers := { s.timers with running := tabulate 16 fun _ => false } }

/-! ## Peers -/

/-- One peer-table entry changed by `f`. -/
def updPeer (x : Station) (f : Peer → Peer) (s : State) : State :=
  { s with peers := s.peers.set x (f s.peers[x]) }

/-- Every peer-table entry changed by `f`. -/
def mapPeers (f : Peer → Peer) (s : State) : State :=
  { s with peers := tabulate 8 fun x => f s.peers[x] }

/-! ## Strays -/

/-- `n` strays counted, saturating at 65535 (R19). -/
def addStrays (n : Nat) (s : State) : State :=
  { s with hci := { s.hci with strays := satAdd 65535 s.hci.strays n } }

/-! ## The passing of time -/

/-- A running timer's value after `n` ticks: it rises by 1 a tick and stands at the high limit when it has reached it (R87, R91,
log 3). -/
def timerAfter (high v n : Nat) : Nat := if v < high then min high (v + n) else v

/-- `n` ticks of 10 µs pass: running timers rise (R87), and every time that counts down does so while it may: the reply
deadline (R10), the dwell, sync and supply-wait times while RUNNING in their phase (R59), the resume guard (R81) and the
roll window (R126). A clock that has reached its end stands there until its expiry is taken (log 3). -/
def elapse (n : Nat) (s : State) : State :=
  let counts (p : Phase) : Bool := s.run.seq == .running && s.run.phase == p
  { s with
    timers := { s.timers with
      values := match s.timers.timed with
        | none => s.timers.values
        | some t => tabulate 16 fun i =>
            if s.timers.running[i] then timerAfter t.limits.high s.timers.values[i] n else s.timers.values[i] }
    hci := { s.hci with outstanding := s.hci.outstanding.map fun o => { o with deadline := o.deadline - n } }
    run := { s.run with
      dwellRem := if counts .dwell then s.run.dwellRem - n else s.run.dwellRem
      syncRem := if counts .sync then s.run.syncRem.map (· - n) else s.run.syncRem
      supplyRem := if counts .supply then s.run.supplyRem.map (· - n) else s.run.supplyRem
      guardRem := s.run.guardRem - n }
    link := { s.link with rollWindow := s.link.rollWindow.map (· - n) } }

end Sys2Proof.Machine
end

