-- ==== Sys2Proof/Machine/Codes.lean ====
section
/-! DEFINITION. The command catalogue and the codes of R191 and R194. -/

namespace Sys2Proof.Machine

/-- The commands of the window (section 11.6). -/
inductive Cmd where
  | setProfile | defineStep | deleteSteps | run | setStopOption | siteRestore | clearResults
  | readStatus | readSite | readFailLog | rewindLog | readBadBlocks | readResult | readPeers | snapshot | readSnapshot
  | pause | resume | abort | raiseAlert | clearAlert | cardReset
  deriving DecidableEq, Repr

/-- The command that a code byte names, if any (R191). -/
def cmdOfCode (code : Byte) : Option Cmd :=
  match code.toNat with
  | 0x01 => some .setProfile
  | 0x02 => some .defineStep
  | 0x03 => some .deleteSteps
  | 0x04 => some .run
  | 0x05 => some .setStopOption
  | 0x06 => some .siteRestore
  | 0x07 => some .clearResults
  | 0x20 => some .readStatus
  | 0x21 => some .readSite
  | 0x22 => some .readFailLog
  | 0x23 => some .rewindLog
  | 0x24 => some .readBadBlocks
  | 0x25 => some .readResult
  | 0x26 => some .readPeers
  | 0x27 => some .snapshot
  | 0x28 => some .readSnapshot
  | 0x29 => some .pause
  | 0x2A => some .resume
  | 0x2B => some .abort
  | 0x2C => some .raiseAlert
  | 0x2D => some .clearAlert
  | 0x2E => some .cardReset
  | _ => none

/-- The plan-queue commands (section 11.6); the others go to the urgent queue. -/
def Cmd.isPlan : Cmd → Bool
  | .setProfile | .defineStep | .deleteSteps | .run | .setStopOption | .siteRestore | .clearResults => true
  | _ => false

/-- The READ commands, served while the card is HALTED (R176). -/
def Cmd.isRead : Cmd → Bool
  | .readStatus | .readSite | .readFailLog | .readBadBlocks | .readResult | .readPeers | .readSnapshot => true
  | _ => false

/-- The fixed operand length of a command; SET-PROFILE and DEFINE-STEP have none (R181, R191). -/
def Cmd.operandLength : Cmd → Option Nat
  | .setProfile | .defineStep => none
  | .deleteSteps | .siteRestore | .readFailLog | .rewindLog => some 2
  | .run => some 3
  | .setStopOption | .readSite | .readBadBlocks => some 1
  | _ => some 0

/-- The fixed return length of a command that returns data (R191). RUN's is that of the result record; READ-FAIL-LOG's
depends on its operand and is checked by its owner (R184), so it stands at 0 here. -/
def Cmd.returnLength : Cmd → Option Nat
  | .run | .readResult => some 56
  | .readStatus => some 96
  | .readSite => some 36
  | .readFailLog => some 0
  | .readBadBlocks => some 132
  | .readPeers => some 88
  | .readSnapshot => some 80
  | _ => none

/-- Responses (R194). -/
inductive Response where
  | ok | cancelled | held | commandUnknown | queueFull | operandLength | bufferRange | halted | cardReset
  | runActive | profileInUse | profileRange | stepRange | stepInUse | noProfile | kindUnknown | granuleNotAllowed
  | wrapRange | baseRange | countRange | strideRange | repeatRange | limitOrder | binRange
  | stepUndefined | linkNotReady | alertActive | siteRange | notRunning | notPaused | alreadyPaused | pausePending | runEnded
  | runEnd (cause : EndCause)
  deriving DecidableEq, Repr

/-- End cause codes (R194). -/
def EndCause.code : EndCause → Nat
  | .complete => 1
  | .aborted => 2
  | .stopped => 3
  | .halted => 4
  | .syncTimeout => 5
  | .supplyWaitTimeout => 6
  | .supplyRange => 7
  | .headLink => 8
  | .headFault => 9
  | .linkMute => 10
  | .noSites => 11
  | .cardReset => 12

/-- Response codes (R194). A RUN block completes with 0x40 plus its end cause code, and with 0x15 for CARD RESET. -/
def Response.code : Response → Byte
  | .ok => 0x01
  | .cancelled => 0x02
  | .held => 0x03
  | .commandUnknown => 0x10
  | .queueFull => 0x11
  | .operandLength => 0x12
  | .bufferRange => 0x13
  | .halted => 0x14
  | .cardReset => 0x15
  | .runActive => 0x20
  | .profileInUse => 0x21
  | .profileRange => 0x22
  | .stepRange => 0x23
  | .stepInUse => 0x24
  | .noProfile => 0x25
  | .kindUnknown => 0x26
  | .granuleNotAllowed => 0x27
  | .wrapRange => 0x28
  | .baseRange => 0x29
  | .countRange => 0x2A
  | .strideRange => 0x2B
  | .repeatRange => 0x2C
  | .limitOrder => 0x2D
  | .binRange => 0x2E
  | .stepUndefined => 0x30
  | .linkNotReady => 0x31
  | .alertActive => 0x32
  | .siteRange => 0x33
  | .notRunning => 0x34
  | .notPaused => 0x35
  | .alreadyPaused => 0x36
  | .pausePending => 0x37
  | .runEnded => 0x38
  | .runEnd .cardReset => 0x15
  | .runEnd cause => BitVec.ofNat 8 (0x40 + cause.code)

/-- A flag byte (R194). -/
def flagCode (b : Bool) : Nat := if b then 1 else 0

/-- Site state codes (R194). -/
def SiteState.code : SiteState → Nat
  | .vacant => 0
  | .active => 1
  | .retired => 2
  | .done => 3
  | .tripped => 4

/-- Sequencer state codes (R194). -/
def SeqState.code : SeqState → Nat
  | .idle => 0
  | .running => 1
  | .pausing => 2
  | .paused => 3

/-- Phase codes (R194). -/
def Phase.code : Phase → Nat
  | .entry => 0
  | .supply => 1
  | .operate => 2
  | .compare => 3
  | .dwell => 4
  | .sync => 5
  | .exit => 6

/-- Link state codes (R194). -/
def LinkState.code : LinkState → Nat
  | .rolling => 0
  | .up => 1
  | .mute => 2
  | .off => 3

/-- Rail state codes (R194). -/
def RailState.code : RailState → Nat
  | .none => 0
  | .waiting => 1
  | .holding => 2

/-- Fail kind codes (R194). -/
def FailKind.code : FailKind → Nat
  | .compare => 1
  | .slow => 2
  | .fast => 3
  | .alarm => 4

/-- Request codes (R194). -/
def RequestKind.code : RequestKind → Nat
  | .contactCheck => 1
  | .operate => 2
  | .compare => 3
  | .drop => 4
  | .abandon => 5

/-- Reply codes (R194). -/
def ReplyKind.code : ReplyKind → Nat
  | .contact => 1
  | .accept => 2
  | .result => 3

/-- Granule codes (R192). -/
def Granule.code : Granule → Nat
  | .page => 1
  | .sector => 2
  | .block => 3
  | .device => 4

/-- Stop option codes (R191). -/
def StopOption.code : StopOption → Nat
  | .shutdown => 0
  | .ignore => 1

/-- Frame kind codes (R118). -/
def FrameKind.code : FrameKind → Nat
  | .release => 1
  | .withdraw => 2
  | .leave => 3
  | .state => 4
  | .roll => 5
  | .mark => 6
  | .wait => 7
  | .claim => 8

end Sys2Proof.Machine
end

