-- ==== Sys2Proof/Machine/Operands.lean ====
section
/-! DEFINITION. Reading command blocks and their operands (sections 12.3 and 12.4), and the form of link frames (R117, R118, section 12.2). -/

namespace Sys2Proof.Machine

/-! ## Command blocks (section 12.3) -/

/-- A byte of the copied block. -/
def Block.byte (b : Block) (i : Nat) : Byte := b.bytes.getD i 0

/-- The command code. -/
def Block.code (b : Block) : Byte := b.byte 0

/-- The notify value. -/
def Block.notify (b : Block) : Byte := b.byte 3

/-- The operand length byte. -/
def Block.opLength (b : Block) : Nat := (b.byte 4).toNat

/-- The buffer offset. -/
def Block.bufOffset (b : Block) : Nat := beValue [b.byte 8, b.byte 9]

/-- The buffer length. -/
def Block.bufLength (b : Block) : Nat := beValue [b.byte 10, b.byte 11]

/-- An operand byte. Bytes beyond the operand length are not read (R191) and stand as 0 (log 9). -/
def Block.op (b : Block) (i : Nat) : Nat := if i < b.opLength then (b.byte (16 + i)).toNat else 0

/-- An operand field of `n` bytes, most significant byte first. -/
def Block.opField (b : Block) (i n : Nat) : Nat := (List.range n).foldl (fun acc k => acc * 256 + b.op (i + k)) 0

/-- A two-byte site mask at the start of the operand. -/
def Block.opMask (b : Block) : SiteMask := BitVec.ofNat 16 (b.opField 0 2)

/-- The response of the first condition that holds, in the order listed; none when none holds. -/
def firstRefusal : List (Bool × Response) → Option Response
  | [] => none
  | (c, r) :: rest => if c then some r else firstRefusal rest

/-! ## Codes inside operands (R192) -/

/-- The granule a code names. -/
def granuleOf : Nat → Option Granule
  | 1 => some .page
  | 2 => some .sector
  | 3 => some .block
  | 4 => some .device
  | _ => none

/-- The direction a code names. -/
def directionOf : Nat → Option Direction
  | 0 => some .up
  | 1 => some .down
  | _ => none

/-- The data mode a code names. -/
def dataModeOf : Nat → Option DataMode
  | 0 => some .solid
  | 1 => some .alternate
  | 2 => some .address
  | 3 => some .erased
  | _ => none

/-- The fail action a code names. -/
def failActionOf : Nat → Option FailAction
  | 0 => some .retire
  | 1 => some .logOnly
  | _ => none

/-- The timeout action a code names. -/
def timeoutActionOf : Nat → Option TimeoutAction
  | 0 => some .proceed
  | 1 => some .endRun
  | _ => none

/-- The flag a byte holds. -/
def flagOf : Nat → Option Bool
  | 0 => some false
  | 1 => some true
  | _ => none

/-- The stop option a code names. -/
def stopOptionOf : Nat → Option StopOption
  | 0 => some .shutdown
  | 1 => some .ignore
  | _ => none

/-- The group value of RUN: 0..3 a group, 0xFF none, any other names nothing (R191). -/
def runGroupOf (v : Nat) : Option (Option Group) :=
  if h : v < 4 then some (some ⟨v, h⟩) else if v = 0xFF then some none else none

/-! ## SET-PROFILE (R192) -/

/-- The exclusion window count of the operand. -/
def Block.windowCount (b : Block) : Nat := b.op 27

/-- The profile that the operand holds. -/
def profileOperand (b : Block) : Profile :=
  { p := b.op 0, s := b.op 1, b := b.op 2, c := b.op 3
    eraseDraw := b.opField 4 2, programDraw := b.opField 6 2
    eraseLimits := { low := b.opField 8 3, high := b.opField 11 3 }
    programLimits := { low := b.opField 14 3, high := b.opField 17 3 }
    allowance := b.op 20, passBin := b.op 21, tripBin := b.op 22
    shareLimit := b.opField 23 2, supplyLimit := b.opField 25 2
    windows := (List.range b.windowCount).map fun i => (b.opField (28 + 4 * i) 2, b.opField (30 + 4 * i) 2) }

/-- The limit pair is in order; its ranges follow from its three-byte fields (R22). -/
def Limits.ordered (l : Limits) : Bool := decide (l.low < l.high)

/-- Every field in its range of R22, and the further conditions of R26, row 5. -/
def Profile.inRange (pr : Profile) : Bool :=
  decide (8 ≤ pr.p ∧ pr.p ≤ 14 ∧ pr.s ≤ 8 ∧ pr.b ≤ 8 ∧ pr.c ≤ 16 ∧ pr.c + pr.b + pr.s ≤ 28)
  && decide (pr.eraseDraw ≤ 500 ∧ pr.programDraw ≤ 500)
  && pr.eraseLimits.ordered && pr.programLimits.ordered
  && decide (pr.allowance ≤ 64 ∧ 1 ≤ pr.passBin ∧ pr.passBin ≤ 15 ∧ 1 ≤ pr.tripBin ∧ pr.tripBin ≤ 15)
  && decide (1 ≤ pr.shareLimit ∧ pr.shareLimit ≤ 1023 ∧ pr.supplyLimit ≤ 65535)
  && pr.windows.all fun w => decide (w.1 ≤ w.2 ∧ w.2 < 2 ^ pr.c)

/-! ## DEFINE-STEP (R192) -/

/-- The step index. -/
def Block.stepIndex (b : Block) : Nat := b.op 0

/-- The kind code: 1 ERASE, 2 PROGRAM, 3 VERIFY, 4 DWELL, 5 SYNC. -/
def Block.kindCode (b : Block) : Nat := b.op 1

/-- The kind has an address part (R27). -/
def Block.hasAddress (b : Block) : Bool := decide (1 ≤ b.kindCode ∧ b.kindCode ≤ 3)

/-- The kind may have a limits part (R27). -/
def Block.mayLimit (b : Block) : Bool := b.kindCode == 1 || b.kindCode == 2

/-- The limits-present flag, read for ERASE and PROGRAM only (R190). -/
def Block.limitsFlag (b : Block) : Option Bool := flagOf (b.op 2)

/-- The granule that the operand names. -/
def Block.granule (b : Block) : Option Granule := granuleOf (b.op 3)

/-- Where the limits part stands. -/
def Block.limitsAt (b : Block) : Nat := if b.kindCode = 1 then 19 else 21

/-- The limits part. -/
def Block.limits (b : Block) : Limits := { low := b.opField b.limitsAt 3, high := b.opField (b.limitsAt + 3) 3 }

/-- The fail bin. -/
def Block.failBin (b : Block) : Nat := if b.kindCode = 1 then b.op 17 else b.op 19

/-- The fail action. -/
def Block.failAction (b : Block) : Option FailAction := failActionOf (if b.kindCode = 1 then b.op 18 else b.op 20)

/-- The data mode of PROGRAM and VERIFY. -/
def Block.dataMode (b : Block) : Option DataMode := dataModeOf (b.op 17)

/-- The wrap width, stride, direction, base, count and repeats of the address part. -/
def Block.wrap (b : Block) : Nat := b.op 14
/-- The stride. -/
def Block.stride (b : Block) : Nat := b.opField 11 2
/-- The direction. -/
def Block.direction (b : Block) : Option Direction := directionOf (b.op 13)
/-- The base unit. -/
def Block.base (b : Block) : Nat := b.opField 4 4
/-- The count N. -/
def Block.count (b : Block) : Nat := b.opField 8 3
/-- The repeats R. -/
def Block.repeats (b : Block) : Nat := b.opField 15 2
/-- The dwell time of DWELL or the timeout of SYNC, in ms. -/
def Block.millis (b : Block) : Nat := b.opField 3 2

/-- The operand lengths the kind and the limits-present flag admit (R35, row 6). -/
def Block.stepLengthOk (b : Block) : Bool :=
  match b.kindCode with
  | 1 => match b.limitsFlag with
    | some false => b.opLength == 19
    | some true => b.opLength == 25
    | none => b.opLength == 19 || b.opLength == 25
  | 2 => match b.limitsFlag with
    | some false => b.opLength == 21
    | some true => b.opLength == 27
    | none => b.opLength == 21 || b.opLength == 27
  | 3 => b.opLength == 21
  | 4 => b.opLength == 5
  | 5 => b.opLength == 6
  | _ => false

/-- Every code byte that the kind has names something (R35, row 7). The direction of a DEVICE step is not read (R190). -/
def Block.stepCodesOk (b : Block) : Bool :=
  let dirOk := b.granule == some .device || b.direction.isSome
  match b.kindCode with
  | 1 => dirOk && b.failAction.isSome && b.limitsFlag.isSome
  | 2 => dirOk && b.dataMode.isSome && b.failAction.isSome && b.limitsFlag.isSome
  | 3 => dirOk && b.dataMode.isSome && (flagOf (b.op 20)).isSome
  | 5 => (timeoutActionOf (b.op 5)).isSome
  | _ => true

/-- The kind allows the granule (R29). -/
def Block.granuleAllowed (b : Block) : Bool :=
  match b.kindCode, b.granule with
  | 1, some .sector | 1, some .block | 1, some .device => true
  | 2, some .page | 2, some .sector => true
  | 3, some .page | 3, some .sector | 3, some .block => true
  | _, _ => false

/-- The address part. The stride, direction and wrap width of a DEVICE step are not read (R190). -/
def Block.addrPart (b : Block) : AddrPart :=
  let device := b.granule == some .device
  { granule := b.granule.getD .device, base := b.base, count := b.count
    stride := if device then 0 else b.stride
    dir := if device then .up else b.direction.getD .up
    wrap := if device then 0 else b.wrap
    repeats := b.repeats }

/-- The data part. -/
def Block.dataPart (b : Block) : DataPart := { mode := b.dataMode.getD .solid, seed := BitVec.ofNat 8 (b.op 18) }

/-- The limits part, when the flag says it is present. -/
def Block.limitsPart (b : Block) : Option Limits := if b.limitsFlag = some true then some b.limits else none

/-- The step record that an accepted operand holds. -/
def stepOperand (b : Block) : StepRecord :=
  match b.kindCode with
  | 1 => .erase b.addrPart b.limitsPart b.failBin (b.failAction.getD .retire)
  | 2 => .program b.addrPart b.dataPart b.limitsPart b.failBin (b.failAction.getD .retire)
  | 3 => .verify b.addrPart b.dataPart b.failBin (decide (b.op 20 = 1))
  | 4 => .dwell b.millis
  | _ => .sync b.millis ((timeoutActionOf (b.op 5)).getD .proceed)

/-! ## Link frames (R117, R118, section 12.2) -/

/-- The kind of a frame. -/
def Frame.kind : Frame → FrameKind
  | .release _ => .release
  | .withdraw => .withdraw
  | .leave _ => .leave
  | .state _ _ => .state
  | .roll _ => .roll
  | .mark _ _ => .mark
  | .wait _ => .wait
  | .claim _ _ => .claim

/-- The key byte: 16 × kind code + station number (R117). -/
def frameKey (x : Station) (f : Frame) : Nat := 16 * f.kind.code + x

/-- The three payload bytes (section 12.2). -/
def Frame.payload : Frame → List Byte
  | .release u => beBytes 2 u ++ [0]
  | .withdraw => [0, 0, 0]
  | .leave g => [BitVec.ofNat 8 g, 0, 0]
  | .state h b => beBytes 3 (h * 4096 + b)
  | .roll b => beBytes 2 b ++ [0]
  | .mark g k => [BitVec.ofNat 8 g, BitVec.ofNat 8 k, 0]
  | .wait n => beBytes 2 n ++ [0]
  | .claim u st => beBytes 2 u ++ [BitVec.ofNat 8 st]

/-- The five bytes of a frame: key, payload, and the check byte that makes their sum 0 modulo 256 (R117). -/
def frameBytes (x : Station) (f : Frame) : List Byte :=
  let body := BitVec.ofNat 8 (frameKey x f) :: f.payload
  body ++ [0 - body.foldl (· + ·) 0]

/-- The frame that a carried RELEASE's payload says, if its fields lie in their ranges (R118, R120 condition 4). The same holds
for the other kinds below. -/
def releaseFrame (units : BitVec 16) : Option Frame :=
  if 1 ≤ units.toNat ∧ units.toNat ≤ 1023 then some (.release units.toNat) else none

/-- A carried LEAVE's payload. -/
def leaveFrame (group : Byte) : Option Frame :=
  if h : group.toNat < 4 then some (.leave ⟨group.toNat, h⟩) else none

/-- A carried STATE's payload. -/
def stateFrame (held budget : BitVec 12) : Option Frame :=
  if held.toNat ≤ 1023 ∧ budget.toNat ≤ 1023 then some (.state held.toNat budget.toNat) else none

/-- A carried ROLL's payload. -/
def rollFrame (budget : BitVec 16) : Option Frame :=
  if budget.toNat ≤ 1023 then some (.roll budget.toNat) else none

/-- A carried MARK's payload. -/
def markFrame (group mark : Byte) : Option Frame :=
  if h : group.toNat < 4 then (if mark.toNat ≤ 128 then some (.mark ⟨group.toNat, h⟩ mark.toNat) else none) else none

/-- A carried WAIT's payload. -/
def waitFrame (need : BitVec 16) : Option Frame :=
  if 1 ≤ need.toNat ∧ need.toNat ≤ 1023 then some (.wait need.toNat) else none

/-- A carried CLAIM's payload. -/
def claimFrame (units : BitVec 16) (step : Byte) : Option Frame :=
  if 1 ≤ units.toNat ∧ units.toNat ≤ 1023 ∧ step.toNat ≤ 127 then some (.claim units.toNat step.toNat) else none

/-- The kind a kind code names; 0 and 9 to 15 name none (R118, R120 condition 2). -/
def frameKindOf : Nat → Option FrameKind
  | 1 => some .release
  | 2 => some .withdraw
  | 3 => some .leave
  | 4 => some .state
  | 5 => some .roll
  | 6 => some .mark
  | 7 => some .wait
  | 8 => some .claim
  | _ => none

/-- The frame that three payload bytes say under a kind, if its fields lie in their ranges. Bits that the kind does not use are ignored
(R117, R118, section 12.2; R120 condition 4). -/
def payloadFrame (p1 p2 p3 : Byte) : FrameKind → Option Frame
  | .release => releaseFrame (p1 ++ p2)
  | .withdraw => some .withdraw
  | .leave => leaveFrame p1
  | .state => stateFrame ((p1 ++ p2 ++ p3).extractLsb' 12 12) ((p1 ++ p2 ++ p3).extractLsb' 0 12)
  | .roll => rollFrame (p1 ++ p2)
  | .mark => markFrame p1 p2
  | .wait => waitFrame (p1 ++ p2)
  | .claim => claimFrame (p1 ++ p2) p3

/-- The station and the frame that the bytes heard on the line say; none when one of R120's five conditions holds of them: a sum that is
not 0 modulo 256, a kind code of no kind, a station above 7, a field outside its range, or an end before the check byte. -/
def frameHeard : List Byte → Option (Station × Frame)
  | [key, p1, p2, p3, check] =>
    if h : key + p1 + p2 + p3 + check = 0 ∧ key.toNat % 16 < 8 then
      ((frameKindOf (key.toNat / 16)).bind (payloadFrame p1 p2 p3)).map fun f => (⟨key.toNat % 16, h.2⟩, f)
    else none
  | _ => none

end Sys2Proof.Machine
end

