-- ==== Sys2Proof/Machine/Flags.lean ====
section
/-! DEFINITION. The figures and conditions that the rules compute from the state: granule spaces, exclusion and site masks, counts, rail figures,
the claim rule's condition, the passing condition, and the flags of the status area. -/

namespace Sys2Proof.Machine

/-! ## Granule spaces and blocks (R23, R24) -/

/-- The space exponent g of a granule (R23). -/
def spaceExp (pr : Profile) : Granule → Nat
  | .page => pr.c + pr.b + pr.s
  | .sector => pr.c + pr.b
  | .block => pr.c
  | .device => 0

/-- The size of one unit as a power of two bytes (R23). -/
def unitSize (pr : Profile) : Granule → Nat
  | .page => pr.p
  | .sector => pr.p + pr.s
  | .block => pr.p + pr.s + pr.b
  | .device => pr.p + pr.s + pr.b + pr.c

/-- The block that contains a unit; none for DEVICE, whose unit touches every block (R24). -/
def blockOf (pr : Profile) : Granule → Nat → Option Nat
  | .page, u => some (u / 2 ^ (pr.s + pr.b))
  | .sector, u => some (u / 2 ^ pr.b)
  | .block, u => some u
  | .device, _ => none

/-- The unit lies in an exclusion window (R25, R49). -/
def inExclusion (pr : Profile) (g : Granule) (u : Nat) : Bool :=
  match blockOf pr g u with
  | some k => pr.windows.any fun w => decide (w.1 ≤ k ∧ k ≤ w.2)
  | none => !pr.windows.isEmpty

/-- The unit's block is in a bad-block set (R24, R51). -/
def inBadBlocks (pr : Profile) (g : Granule) (u : Nat) (set : List Nat) : Bool :=
  match blockOf pr g u with
  | some k => set.contains k
  | none => !set.isEmpty

/-- The profile a run reads. A run exists only while a profile is set (R61); the blank one is never read in a run (log 19). -/
def Profile.blank : Profile :=
  { p := 0, s := 0, b := 0, c := 0, eraseDraw := 0, programDraw := 0, eraseLimits := { low := 0, high := 1 }
    programLimits := { low := 0, high := 1 }, allowance := 0, passBin := 0, tripBin := 0, shareLimit := 0, supplyLimit := 0
    windows := [] }

/-- The profile in force. -/
def State.profile (s : State) : Profile := s.store.profile.getD Profile.blank

/-! ## The current step -/

/-- The address part of a step record, with its kind. -/
def StepRecord.addr? : StepRecord → Option (AddrKind × AddrPart)
  | .erase a _ _ _ => some (.erase, a)
  | .program a _ _ _ _ => some (.program, a)
  | .verify a _ _ _ => some (.verify, a)
  | .dwell _ => none
  | .sync _ _ => none

/-- The draw of a step's kind: what one site draws, 0 for a step that draws no rail (R64). -/
def stepDraw (pr : Profile) : StepRecord → Nat
  | .erase _ _ _ _ => pr.eraseDraw
  | .program _ _ _ _ _ => pr.programDraw
  | .verify _ _ _ _ => 0
  | .dwell _ => 0
  | .sync _ _ => 0

/-- The phase that a step of this record begins with (R63, R64). -/
def firstPhaseOf (pr : Profile) (rec : StepRecord) : Phase :=
  match rec with
  | .verify .. => .compare
  | .dwell _ => .dwell
  | .sync .. => .sync
  | .erase .. | .program .. => if stepDraw pr rec = 0 then .operate else .supply

/-- The draw of the current step. -/
def currentDraw (s : State) : Nat :=
  match s.run.record with
  | some rec => stepDraw s.profile rec
  | none => 0

/-- The fail bin of a VERIFY step (R107). -/
def verifyBin (s : State) : Nat :=
  match s.run.record with
  | some (.verify _ _ bin _) => bin
  | _ => 0

/-! ## Sites and masks -/

/-- The ACTIVE sites, ascending. -/
def activeSites (s : State) : List Site := allSites.filter fun i => s.sites[i].state == .active

/-- The count of ACTIVE sites. -/
def activeCount (s : State) : Nat := (activeSites s).length

/-- The members of the pass in progress (R50). -/
def passMembers (s : State) : SiteMask := s.run.members.getD (s.run.pass - 1) 0

/-- The count of the pass's members that are ACTIVE (R65). -/
def activeMembers (s : State) : Nat := ((activeSites s).filter fun i => inMask (passMembers s) i).length

/-- A site's state qualifies it for a visit of the current step (R51, condition 1). -/
def qualifies (s : State) (i : Site) : Bool :=
  match s.sites[i].state, s.run.record with
  | .active, _ => true
  | .retired, some (.verify _ _ _ withRetired) => withRetired
  | _, _ => false

/-- The site mask of a visit to a unit (R51). -/
def visitMask (s : State) (g : Granule) (u : Nat) : SiteMask :=
  maskOf fun i => inMask (passMembers s) i && qualifies s i && !inBadBlocks s.profile g u s.sites[i].badBlocks

/-- The members of passes 1 to P: consecutive chunks of m of the ACTIVE sites, ascending (R64). -/
def passChunks (s : State) (m passes : Nat) : List SiteMask :=
  (List.range passes).map fun j => maskOf fun i => (((activeSites s).drop (j * m)).take m).contains i

/-! ## Rail figures (R136, R138, R139) -/

/-- The tally: the sum of the eight held fields (R136). -/
def tally (s : State) : Nat := (allStations.map fun x => s.peers[x].held).sum

/-- The free rail: the effective budget minus the tally; it may be negative (R136). -/
def freeRail (s : State) : Int := (s.link.effBudget : Int) - tally s

/-- The current limit: the lesser of the share limit and the effective budget (R138). -/
def currentLimit (s : State) : Nat := min s.profile.shareLimit s.link.effBudget

/-- The demand of `a` sites at draw `d`: their current in rail units, rounded up (R65, R138). -/
def railDemand (a d : Nat) : Nat := ceilDiv (a * d) Config.railUnit

/-- Pass selection: the pass size and the number of passes for n sites, draw d and a limit (R139). -/
def passSelection (n d limit : Nat) : Option (Nat × Nat) :=
  match [1, 2, 4, 8, 16].find? fun k => decide (railDemand (ceilDiv n k) d ≤ limit) with
  | some k => some (ceilDiv n k, ceilDiv n (ceilDiv n k))
  | none => none

/-- The sum A of the needs of the stations ahead of this one in its waiter list, or of all of them when it is not listed (R144). -/
def needsAhead (s : State) : Nat :=
  ((s.rail.waiters.takeWhile fun x => x != s.link.own).map fun x => s.peers[x].need.getD 0).sum

/-- The claim rule's four conditions for a demand (R144). -/
def claimRule (s : State) (d : Nat) : Bool :=
  (s.rail.seeking && !s.rail.givingUp)
  && (s.rail.st == .none || s.rail.st == .waiting)
  && s.link.st == .up
  && decide ((d : Int) ≤ freeRail s ∧ (needsAhead s : Int) ≤ freeRail s - d)

/-! ## Sync condition (R161) -/

/-- Entry x shows group g with a last mark of at least m. -/
def atMark (s : State) (x : Station) (g : Group) (m : Nat) : Bool :=
  s.peers[x].group == some g && (match s.peers[x].lastMark with | some k => decide (m ≤ k) | none => false)

/-- The passing condition for awaited mark m of group g (R161). -/
def passingCondition (s : State) (g : Group) (m : Nat) : Bool :=
  atMark s s.link.own g m
  && allStations.all fun x => s.peers[x].group != some g || atMark s x g m

/-- The group of the SYNC step that the station waits at: its own group, and once that is none after the hand-over of LEAVE, still the
group of the run, in which the step was marked (R161, R163, R164; log 35). -/
def waitGroup (s : State) : Option Group := s.sync.ownGroup.or s.run.group

/-- The stations whose entries show group g with a last mark below m, and this station while its own MARK for m has not been
carried (R163). -/
def laggardMask (s : State) (g : Group) (m : Nat) : BitVec 8 :=
  (BitVec.ofBoolListLE (List.ofFn fun x : Station =>
    (s.peers[x].group == some g && !atMark s x g m) || (x == s.link.own && !s.sync.markCarried))).setWidth 8

/-! ## Link and alert flags -/

/-- The link sends frames in ROLLING and UP (section 7.4). -/
def linkSends (s : State) : Bool := s.link.st == .rolling || s.link.st == .up

/-- This card's output on the data line in the objection slot of a frame, from the bytes it heard: pulled low in ROLLING and UP when one of
R120's conditions holds of them. The pull of any one station makes the frame void (FRAME_VOID). -/
def objects (s : State) (heard : List Byte) : Bool := linkSends s && (frameHeard heard).isNone

/-- The link takes carried frames in ROLLING, UP and MUTE (R124). -/
def linkHears (s : State) : Bool := s.link.st != .off

/-- The ALERT drive (R167). -/
def alertDrive (a : AlertMonitor) : Bool := a.headFault || a.raised || a.halted

/-- The attention output to the mainframe: asserted while the attention count is above 0, released while it is 0 (R185). -/
def attentionOutput (s : State) : Bool := decide (0 < s.cwc.attention)

/-- A run is in progress: the sequencer is RUNNING, PAUSING or PAUSED. -/
def runActive (s : State) : Bool := s.run.seq != .idle

/-! ## Frames pending (R121, R149) -/

/-- A frame of the kind stands in the outgoing set. -/
def Outgoing.has (o : Outgoing) : FrameKind → Bool
  | .release => o.release.isSome
  | .withdraw => o.withdraw
  | .leave => o.leave.isSome
  | .state => o.state
  | .roll => o.roll
  | .mark => o.mark.isSome
  | .wait => o.wait.isSome
  | .claim => o.claim.isSome

/-- A frame of the kind is on the line. -/
def onLine (l : Link) (k : FrameKind) : Bool :=
  match l.attempt with
  | some a => a.frame.kind == k
  | none => false

/-- A frame of the kind is pending: in the outgoing set, or still on the line. -/
def framePending (l : Link) (k : FrameKind) : Bool := l.out.has k || onLine l k

/-- None of this station's CLAIM, WAIT, RELEASE and WITHDRAW is pending (R149, step 4). -/
def noRailFrame (l : Link) : Bool :=
  !(framePending l .claim || framePending l .wait || framePending l .release || framePending l .withdraw)

/-- The rail is settled: rail state NONE, nothing of the station's own pending, no give-up under way (R78, R149). -/
def railSettled (s : State) : Bool := s.rail.st == .none && noRailFrame s.link && !s.rail.givingUp

/-! ## Head cable flags -/

/-- The kind of a request. -/
def Request.kind : Request → RequestKind
  | .contactCheck => .contactCheck
  | .operate .. => .operate
  | .compare .. => .compare
  | .drop _ => .drop
  | .abandon => .abandon

/-- The kind of reply a request awaits (section 1.3). -/
def RequestKind.awaits : RequestKind → ReplyKind
  | .contactCheck => .contact
  | .operate | .drop | .abandon => .accept
  | .compare => .result

/-- The reply deadline of a kind of request, in ticks (section 1.3). -/
def RequestKind.deadline : RequestKind → Nat
  | .contactCheck => Config.contactDeadline
  | .operate | .drop | .abandon => Config.acceptDeadline
  | .compare => Config.compareDeadline

/-- The kind of the outstanding request. -/
def Hci.awaiting (h : Hci) : Option RequestKind := h.outstanding.map fun o => o.request.kind

/-- A DROP is pending or awaits its ACCEPT (R68). -/
def dropBusy (h : Hci) : Bool := h.pendingDrop != 0 || h.awaiting == some .drop

/-- An ABANDON is held or awaits its ACCEPT (R73, step 1). -/
def abandonBusy (h : Hci) : Bool := h.held == some .abandon || h.awaiting == some .abandon

end Sys2Proof.Machine
end

