-- ==== Sys2Proof/Machine/Records.lean ====
section
/-! DEFINITION. The layouts of the status area and of the records returned into buffers (section 12.5), and the window as software reads it (R177). -/

namespace Sys2Proof.Machine

/-! ## Markers for absent and none -/

/-- A one-byte field that may be absent: 0xFF (section 12.5). -/
def optByte (v : Option Nat) : List Byte := beBytes 1 (v.getD 0xFF)

/-- A four-byte unit that may be absent: 0xFFFFFFFF (section 12.5). -/
def optUnit (v : Option Nat) : List Byte := beBytes 4 (v.getD 0xFFFFFFFF)

/-- A flag byte (R194). -/
def flagByte (b : Bool) : List Byte := beBytes 1 (flagCode b)

/-- Reserved bytes are written 0 (R190). -/
def reserved (n : Nat) : List Byte := List.replicate n 0

/-! ## Records -/

/-- The head link error record, 12 bytes. The layout gives the empty record its request 0 alone; that its other fields then hold 0 or their
marker for absent is the model's choice (log 36). -/
def headErrorBytes : Option HeadError → List Byte
  | none => beBytes 1 0 ++ beBytes 1 0 ++ optByte none ++ reserved 1 ++ beBytes 2 0 ++ optUnit none ++ reserved 2
  | some e =>
    beBytes 1 e.request.code ++ beBytes 1 e.awaited.code ++ optByte e.step ++ reserved 1 ++ beBytes 2 (e.rep.getD 0)
      ++ optUnit e.unit ++ reserved 2

/-- A fail record, 16 bytes. -/
def failRecBytes (f : FailRec) : List Byte :=
  beBytes 1 f.step ++ beBytes 1 f.granule.code ++ beBytes 1 f.kind.code ++ beBytes 2 f.rep ++ beBytes 4 f.unit
    ++ beBytes 3 f.value ++ beBytes 4 ((f.offset.map BitVec.toNat).getD 0xFFFFFFFF)

/-- The result record, 56 bytes. The layout gives the empty record its end cause 0 alone; that its other fields then hold 0 or their marker
for absent is the model's choice (log 36). -/
def resultBytes : Option ResultRec → List Byte
  | none =>
    beBytes 1 0 ++ optByte none ++ beBytes 2 0 ++ optUnit none ++ beBytes 1 0 ++ beBytes 1 0 ++ beBytes 1 0 ++ flagByte false
      ++ headErrorBytes none ++ reserved 16 ++ reserved 16
  | some r =>
    beBytes 1 r.cause.code ++ optByte r.lastStep ++ beBytes 2 (r.rep.getD 0) ++ optUnit r.unit ++ beBytes 1 r.stepsCompleted
      ++ beBytes 1 r.laggards.toNat ++ beBytes 1 r.alertCount ++ flagByte r.err.isSome ++ headErrorBytes r.err
      ++ r.bins.toList.flatMap (beBytes 1) ++ r.states.toList.flatMap (fun st => beBytes 1 st.code)

/-- A snapshot record, 80 bytes, with its source code (1 HELD, 2 LIVE). -/
def snapshotBytes (source : Nat) (n : Snapshot) : List Byte :=
  beBytes 1 source ++ beBytes 1 n.seq.code ++ beBytes 1 n.phase.code ++ optByte n.step ++ beBytes 2 n.rep ++ beBytes 1 n.pass
    ++ reserved 1 ++ optUnit n.unit ++ beBytes 2 (maskOf fun i => n.busy[i]).toNat ++ reserved 2
    ++ n.values.toList.flatMap (beBytes 4)

/-- The snapshot record built from the values in force (R96). -/
def snapshotOf (s : State) : Snapshot :=
  { seq := s.run.seq, phase := s.run.phase, step := s.run.current, rep := s.uag.r, pass := s.run.pass
    unit := if s.uag.r = 0 then none else s.uag.u
    busy := tabulate 16 fun i => s.sites[i].busy, values := s.timers.values }

/-- READ-SITE, 36 bytes (R113). -/
def siteBytes (s : State) (i : Site) : List Byte :=
  let x := s.sites[i]
  beBytes 1 i ++ beBytes 1 x.state.code ++ beBytes 1 x.bin ++ flagByte x.busy
    ++ optByte (s.timers.timed.map (·.step)) ++ reserved 3
    ++ beBytes 4 x.stats.min ++ beBytes 4 x.stats.max ++ beBytes 4 x.stats.sum ++ beBytes 4 x.stats.count
    ++ beBytes 2 x.failUnits ++ beBytes 2 x.overflow ++ beBytes 1 x.log.length ++ beBytes 1 x.cursor
    ++ beBytes 1 x.badBlocks.length ++ reserved 1 ++ beBytes 4 x.failBits

/-- READ-FAIL-LOG: 8 leading bytes and the k records from the cursor on (R114). Bytes of the return length beyond the
k records are 0 (R190). -/
def failLogBytes (s : State) (i : Site) (k most : Nat) : List Byte :=
  let x := s.sites[i]
  beBytes 1 i ++ beBytes 1 k ++ beBytes 1 x.log.length ++ beBytes 1 x.cursor ++ beBytes 2 x.overflow ++ reserved 2
    ++ ((x.log.drop x.cursor).take k).flatMap failRecBytes ++ reserved (16 * (most - k))

/-- READ-BAD-BLOCKS, 132 bytes (R116). -/
def badBlockBytes (s : State) (i : Site) : List Byte :=
  let set := s.sites[i].badBlocks
  beBytes 1 i ++ beBytes 1 set.length ++ reserved 2 ++ set.flatMap (beBytes 2) ++ reserved (2 * (64 - set.length))

/-- A station's position in the waiter list, 1..8, or 0 for none (R135). -/
def waiterPosition (s : State) (x : Station) : Nat :=
  if s.rail.waiters.contains x then s.rail.waiters.idxOf x + 1 else 0

/-- One entry of READ-PEERS, 10 bytes. -/
def peerBytes (s : State) (x : Station) : List Byte :=
  let e := s.peers[x]
  flagByte e.present ++ beBytes 2 (e.budget.getD 0) ++ beBytes 2 e.held ++ beBytes 2 (e.need.getD 0)
    ++ beBytes 1 (waiterPosition s x) ++ optByte (e.group.map Fin.val) ++ optByte e.lastMark

/-- READ-PEERS, 88 bytes (R135). -/
def peersBytes (s : State) : List Byte :=
  beBytes 1 s.link.own ++ beBytes 1 s.link.st.code ++ beBytes 2 s.link.ownBudget ++ beBytes 2 s.link.effBudget
    ++ beBytes 1 s.link.objections ++ reserved 1 ++ allStations.flatMap (peerBytes s)

/-- The entries of the step table that hold a record (R38). -/
def stepsDefined (s : State) : Nat := (s.store.steps.toList.filter Option.isSome).length

/-- The status area, 64 bytes (R186, section 12.5). -/
def statusArea (s : State) : List Byte :=
  flagByte s.alert.halted ++ flagByte s.alert.headFault ++ flagByte s.alert.raised ++ flagByte (alertDrive s.alert)
    ++ flagByte s.alert.level ++ flagByte s.alert.railFail ++ beBytes 1 s.store.stopOption.code ++ beBytes 1 s.alert.count
    ++ beBytes 1 s.run.seq.code ++ beBytes 1 s.run.phase.code ++ optByte s.run.current ++ beBytes 1 s.run.pass
    ++ flagByte s.store.profile.isSome ++ beBytes 1 (stepsDefined s) ++ flagByte s.timers.latch.isSome
    ++ beBytes 1 s.link.st.code ++ beBytes 1 s.link.own ++ beBytes 1 s.link.objections ++ beBytes 2 s.link.effBudget
    ++ beBytes 1 s.rail.st.code ++ reserved 1 ++ beBytes 2 (s.rail.ownDemand.getD 0)
    ++ optByte (s.sync.ownGroup.map Fin.val) ++ beBytes 1 s.sync.markCount ++ flagByte s.sync.awaited.isSome
    ++ optByte s.sync.awaited
    ++ beBytes 2 s.hci.strays ++ beBytes 1 s.cwc.urgent.length ++ beBytes 1 s.cwc.plan.length
    ++ flagByte s.cwc.outRun.isSome ++ flagByte s.cwc.outPause.isSome ++ flagByte s.cwc.outAbort.isSome ++ reserved 1
    ++ beBytes 2 s.cwc.badPosts ++ reserved 2 ++ headErrorBytes s.hci.err ++ reserved 12

/-- READ-STATUS, 96 bytes: the status area's fields and those of the run record (R187). The layout gives no marker for a run without a group
and none for a run that is not ending: that they are 0xFF and 0 is the model's choice (log 36). -/
def statusBytes (s : State) : List Byte :=
  statusArea s ++ beBytes 1 s.run.first ++ beBytes 1 s.run.last ++ optByte (s.run.group.map Fin.val)
    ++ beBytes 1 s.run.stepsCompleted ++ beBytes 1 s.run.passes ++ beBytes 1 s.run.passSize ++ beBytes 2 s.run.passDemand
    ++ beBytes 4 s.run.produced ++ beBytes 4 s.run.issued ++ beBytes 4 s.run.excluded ++ beBytes 4 s.run.noSite
    ++ flagByte s.run.heldPause ++ flagByte (decide (s.run.guardRem ≠ 0)) ++ flagByte s.run.ending.isSome
    ++ beBytes 1 ((s.run.ending.map EndCause.code).getD 0) ++ reserved 4

/-- The window as software reads it (R177). -/
def windowRead (s : State) (a : Nat) : Byte :=
  if a < 0x40 then (statusArea s).getD a 0
  else if a < 0x42 then (beBytes 2 s.cwc.postCell.toNat).getD (a - 0x40) 0
  else if a < 0x44 then (beBytes 2 s.cwc.attention).getD (a - 0x42) 0
  else readArea s a

end Sys2Proof.Machine
end

