-- ==== Sys2Proof/Machine/Completion.lean ====
section
/-! DEFINITION. Completing a command block, and taking the next block of the queues (R180 to R184). -/

namespace Sys2Proof.Machine

/-- The attention count raised by 1, saturating at 65535, when a block asks for notice (R185). -/
def raiseAttention (b : Block) (s : State) : State :=
  if b.notify = 0 then s else { s with cwc := { s.cwc with attention := satAdd 65535 s.cwc.attention 1 } }

/-- A block completed with a response, after its buffer has been written: the response code, the done flag, then the
attention count (R183). -/
def respond (b : Block) (r : Response) (s : State) : State :=
  raiseAttention b (writeArea (b.offset + 2) 0 (writeArea (b.offset + 1) r.code s))

/-- A block completed with data: its buffer is written first (R183, R184). -/
def respondWith (b : Block) (r : Response) (data : List Byte) (s : State) : State :=
  respond b r (writeBytes b.bufOffset data s)

/-- The placement rule of R184 for a buffer of at least `need` bytes. -/
def bufferOk (b : Block) (need : Nat) : Bool :=
  decide (Config.areaFirst ≤ b.bufOffset ∧ b.bufOffset < Config.windowSize)
  && decide (b.bufOffset + b.bufLength ≤ Config.windowSize)
  && decide (b.bufLength = 0 ∨ b.bufOffset + b.bufLength ≤ b.offset ∨ b.offset + 64 ≤ b.bufOffset)
  && decide (need ≤ b.bufLength)

/-- The buffer check of R181 for a command: RUN's result buffer is optional (R184). -/
def bufferCheck (c : Cmd) (b : Block) : Bool :=
  match c.returnLength with
  | none => true
  | some n => (c == .run && b.bufOffset == 0) || bufferOk b n

/-- The window checks of R181, in order. -/
def windowChecks (c : Cmd) (b : Block) (s : State) : Option Response :=
  firstRefusal
    [(s.alert.halted && !c.isRead, .halted),
     (decide (48 < b.opLength) || (match c.operandLength with | some n => b.opLength != n | none => false), .operandLength),
     (!bufferCheck c b, .bufferRange)]

/-- The oldest block of the urgent queue, or of the plan queue when the urgent queue is empty, taken out of its queue (R180). -/
def takeBlock (s : State) : Option (Block × State) :=
  match s.cwc.urgent, s.cwc.plan with
  | b :: rest, _ => some (b, { s with cwc := { s.cwc with urgent := rest } })
  | [], b :: rest => some (b, { s with cwc := { s.cwc with plan := rest } })
  | [], [] => none

/-- Serving the next block, when it is of command `c`: the window checks, then the owner (R180, R181). When the next block is
of another command, or none waits, the event cannot happen and nothing changes (log 1). -/
def serve (c : Cmd) (owner : Block → State → State) (s : State) : State :=
  match takeBlock s with
  | none => s
  | some (b, s') =>
    if cmdOfCode b.code = some c then
      match windowChecks c b s' with
      | some r => respond b r s'
      | none => owner b s'
    else s

/-- The response of an owner that refuses or completes at once: `act` and OK when no condition of its table holds. -/
def guarded (b : Block) (conditions : List (Bool × Response)) (act : State → State) (s : State) : State :=
  match firstRefusal conditions with
  | some r => respond b r s
  | none => act s

/-- The blocks of a list completed with one response, oldest first (R188). -/
def respondAll (r : Response) : List Block → State → State
  | [], s => s
  | b :: bs, s => respondAll r bs (respond b r s)

/-- The result record written into the result buffer that an outstanding RUN block names (R61, R184). -/
def writeRunResult (s : State) : State :=
  match s.cwc.outRun with
  | none => s
  | some b => if b.bufOffset = 0 then s else writeBytes b.bufOffset (resultBytes s.run.result) s

/-- The outstanding RUN block, if any, completed. -/
def finishRun (r : Response) (s : State) : State :=
  match s.cwc.outRun with
  | none => s
  | some b => respond b r { s with cwc := { s.cwc with outRun := none } }

/-- The outstanding ABORT block, if any, completed. -/
def finishAbort (r : Response) (s : State) : State :=
  match s.cwc.outAbort with
  | none => s
  | some b => respond b r { s with cwc := { s.cwc with outAbort := none } }

/-- The outstanding PAUSE block, if any, completed. -/
def finishPause (r : Response) (s : State) : State :=
  match s.cwc.outPause with
  | none => s
  | some b => respond b r { s with cwc := { s.cwc with outPause := none } }

/-- The outstanding blocks of a run that has ended, completed in the order of R75 and R188: RUN, ABORT, PAUSE. -/
def finishBlocks (cause : EndCause) (s : State) : State :=
  if cause = .cardReset then finishPause .cardReset (finishAbort .cardReset (finishRun .cardReset s))
  else finishPause .runEnded (finishAbort .ok (finishRun (.runEnd cause) s))

end Sys2Proof.Machine
end

