-- ==== Sys2Proof/Machine/Sites.lean ====
section
/-! DEFINITION. The Site Table's events (R3 to R8), the fail logic (R100 to R110) and the judging of busy times (R89 to R92). -/

namespace Sys2Proof.Machine

/-! ## Site events -/

/-- The contact mask applied to every site that is not TRIPPED (R3). -/
def applyContact (mask : SiteMask) (s : State) : State :=
  { s with sites := tabulate 16 fun i =>
      let x := s.sites[i]
      if x.state = .tripped then x else { x with state := if inMask mask i then .active else .vacant } }

/-- The retire event: an ACTIVE site becomes RETIRED with the bin; any other site is left as it is (R4). -/
def retireSite (i : Site) (bin : Nat) (s : State) : State :=
  if s.sites[i].state = .active then updSite i (fun x => { x with state := .retired, bin := bin }) s else s

/-- The trip event for a site that is not TRIPPED: state, trip bin if the bin is 0 and a profile is set, busy flag and timer
stopped (R5, R88). -/
def tripSite (i : Site) (s : State) : State :=
  if s.sites[i].state = .tripped then s
  else
    let bin := match s.store.profile with
      | some pr => if s.sites[i].bin = 0 then pr.tripBin else s.sites[i].bin
      | none => s.sites[i].bin
    stopTimerAt i s.timers.values[i] (updSite i (fun x => { x with state := .tripped, bin := bin }) s)

/-- The done event: every ACTIVE site becomes DONE, with the pass bin at COMPLETE if its bin is 0; every busy flag is clear
(R6, R88). -/
def doneEvent (cause : EndCause) (s : State) : State :=
  let s := stopAllTimers s
  mapSites (fun x =>
    if x.state = .active then
      { x with state := .done, bin := if cause = .complete ∧ x.bin = 0 then s.profile.passBin else x.bin }
    else x) s

/-- A site's fail logic state cleared (R110). -/
def clearAccount (x : SiteRec) : SiteRec :=
  { x with log := [], cursor := 0, overflow := 0, failUnits := 0, failBits := 0, badBlocks := [], unitFailed := false }

/-- Every site's account cleared and every bin set to 0 (R110). -/
def clearAccounts (s : State) : State := mapSites (fun x => { clearAccount x with bin := 0 }) s

/-- Every site's step statistics set to zero (R86). -/
def clearStats (s : State) : State := mapSites (fun x => { x with stats := Stats.zero }) s

/-- Every unit-failed mark cleared (R102). -/
def clearUnitFailed (s : State) : State := mapSites (fun x => { x with unitFailed := false }) s

/-! ## The fail logic -/

/-- A record entered into a fail log: appended while there is room, counted as overflow otherwise (R103). -/
def logRecord (f : FailRec) (x : SiteRec) : SiteRec :=
  if x.log.length < Config.logPlaces then { x with log := x.log ++ [f] }
  else { x with overflow := satAdd 65535 x.overflow 1 }

/-- The fail-unit count raised for the first failure of a unit (R102). -/
def countFailUnit (x : SiteRec) : SiteRec :=
  if x.unitFailed then x else { x with failUnits := satAdd 65535 x.failUnits 1, unitFailed := true }

/-- A failure of a site in the unit in flight, recorded (R101, R102, R103). A failure is never handed over with no unit in
flight (log 19). -/
def recordFailure (i : Site) (kind : FailKind) (value : Nat) (offset : Option (BitVec 32)) (s : State) : State :=
  match s.run.inflight with
  | none => s
  | some u =>
    let f : FailRec :=
      { step := u.step, rep := u.rep, granule := u.granule, unit := u.unit, kind := kind, value := value, offset := offset }
    updSite i (fun x => countFailUnit (logRecord f x)) s

/-- A block put into an ascending list at its place. -/
def insertBlock (k : Nat) : List Nat → List Nat
  | [] => [k]
  | x :: xs => if k < x then k :: x :: xs else if k = x then x :: xs else x :: insertBlock k xs

/-- A bad-block set with a block entered, and whether a retire event follows, with allowance a (R107). -/
def enterBlock (a k : Nat) (set : List Nat) : List Nat × Bool :=
  if set.contains k then (set, false)
  else if set.length < Config.badBlockPlaces then (insertBlock k set, decide (a < set.length + 1))
  else (set, true)

/-- A COMPARE failure: record, fail-bit total, bad block, and the retire event if R107 calls for it (R106). -/
def compareFailure (e : ResultEntry) (s : State) : State :=
  match s.run.inflight with
  | none => s
  | some u =>
    let s := recordFailure e.site .compare e.failBits.toNat (some e.offset) s
    let s := updSite e.site (fun x => { x with failBits := satAdd 4294967295 x.failBits e.failBits.toNat }) s
    match blockOf s.profile u.granule u.unit with
    | none => s
    | some k =>
      let (set, retire) := enterBlock s.profile.allowance k s.sites[e.site].badBlocks
      let s := updSite e.site (fun x => { x with badBlocks := set }) s
      if retire then retireSite e.site (verifyBin s) s else s

/-! ## Judging busy times -/

/-- One busy time taken into a site's step statistics (R90). -/
def takeBusyTime (v : Nat) (t : Stats) : Stats :=
  if t.count = 0 then { min := v, max := v, sum := v, count := 1 }
  else { min := min t.min v, max := max t.max v, sum := satAdd 4294967295 t.sum v, count := satAdd 16777215 t.count 1 }

/-- A FAST or SLOW failure handed on in its two parts: the record, then the retire event under RETIRE (R92). -/
def busyFailure (i : Site) (kind : FailKind) (value : Nat) (t : TimedStep) (s : State) : State :=
  let s := recordFailure i kind value none s
  if t.action = .retire then retireSite i t.bin s else s

/-- A READY's busy time judged against the limits of the timed step, and taken into the statistics (R89, R93). -/
def judgeBusyTime (i : Site) (v : Nat) (s : State) : State :=
  match s.timers.timed with
  | none => s
  | some t =>
    let s := updSite i (fun x => { x with stats := takeBusyTime v x.stats }) s
    if v < t.limits.low then busyFailure i .fast v t s else s

/-- The busy time at which a READY stops a timer: its value, which stays below the high limit when the READY is taken first (R88,
R91). -/
def busyTime (i : Site) (s : State) : Nat :=
  match s.timers.timed with
  | none => s.timers.values[i]
  | some t => min s.timers.values[i] (t.limits.high - 1)

/-- One site named in a READY: a busy one is stopped and judged, any other counts a stray (R16, R93). -/
def readySite (i : Site) (s : State) : State :=
  if s.sites[i].busy then judgeBusyTime i (busyTime i s) (stopTimerAt i (busyTime i s) s) else addStrays 1 s

/-- The sites named in a READY, in ascending site number (R93). -/
def readySites (mask : SiteMask) (s : State) : State :=
  (allSites.filter fun i => inMask mask i).foldl (fun s i => readySite i s) s

/-- The entries of a RESULT in the order received; `named` lists the sites that earlier entries have named (R13). An entry that
is not handed to the fail logic counts a stray. -/
def resultEntries (mask : SiteMask) : List Site → List ResultEntry → State → State
  | _, [], s => s
  | named, e :: rest, s =>
    let good := inMask mask e.site && s.sites[e.site].state != .tripped && !named.contains e.site && e.failBits != 0
    resultEntries mask (e.site :: named) rest (if good then compareFailure e s else addStrays 1 s)

end Sys2Proof.Machine
end

