-- ==== Sys2Proof/Machine/Head.lean ====
section
/-! DEFINITION. The Head Cable Interface: sending requests, holding them, the pending DROP, ABANDON and reply deadlines (R10 to R21). -/

namespace Sys2Proof.Machine

/-- A request sent on the head cable, its reply awaited within its deadline (R10). -/
def sendRequest (r : Request) (s : State) : State :=
  { s with hci := { s.hci with
      outstanding := some { request := r, deadline := r.kind.deadline }, cable := some r } }

/-- The effects of sending ABANDON: the pending-drop mask emptied, every timer stopped, and the unit in flight cut short
(R15, R94). -/
def abandonEffects (s : State) : State :=
  let s := stopAllTimers s
  { s with hci := { s.hci with pendingDrop := 0 }, run := { s.run with inflight := none } }

/-- What an IDLE HCI has to send: the pending DROP first, then the request it holds (R10, R14, log 13). -/
def hciDue (s : State) : Option State :=
  match s.hci.outstanding with
  | some _ => none
  | none =>
    if s.hci.pendingDrop ≠ 0 then
      some (sendRequest (.drop s.hci.pendingDrop) { s with hci := { s.hci with pendingDrop := 0 } })
    else match s.hci.held with
      | none => none
      | some r =>
        let s := { s with hci := { s.hci with held := none } }
        some (sendRequest r (if r = .abandon then abandonEffects s else s))

/-- The HCI sends what is due. -/
def hciPump (s : State) : State := (hciDue s).getD s

/-- A request handed to the HCI: sent at once while it is IDLE, held otherwise (R10). -/
def handRequest (r : Request) (s : State) : State := hciPump { s with hci := { s.hci with held := some r } }

/-- A held request is the unit in flight's own: an OPERATE or a COMPARE. -/
def holdsUnit (h : Hci) : Bool :=
  match h.held with
  | some (.operate ..) | some (.compare ..) => true
  | _ => false

/-- An ordinary ABANDON handed over: a held request is discarded unsent, its unit cut short, and the ABANDON takes its
place (R10, R15). -/
def handAbandon (s : State) : State :=
  handRequest .abandon (if holdsUnit s.hci then { s with run := { s.run with inflight := none } } else s)

/-- An immediate ABANDON: an outstanding request is given up, nothing is awaited, and the HCI is IDLE after sending (R15). -/
def abandonNow (s : State) : State :=
  let s := abandonEffects s
  { s with hci := { s.hci with outstanding := none, held := none, cable := some .abandon } }

/-- The HCI returns to IDLE. -/
def hciIdle (s : State) : State := { s with hci := { s.hci with outstanding := none } }

/-- The error record of a passed deadline, for a kind of request (R20). -/
def headErrorOf (k : RequestKind) (s : State) : HeadError :=
  { request := k, awaited := k.awaits
    step := if k = .contactCheck then none else s.run.current
    rep := s.run.inflight.map (·.rep), unit := s.run.inflight.map (·.unit) }

/-- The error record filled if it is empty (R20). -/
def fillError (k : RequestKind) (s : State) : State :=
  match s.hci.err with
  | some _ => s
  | none => { s with hci := { s.hci with err := some (headErrorOf k s) } }

/-- A reply of another kind than the one awaited, or one taken while IDLE, is a stray (R10, R19). -/
def awaits (k : ReplyKind) (s : State) : Bool := (s.hci.awaiting.map RequestKind.awaits) == some k

/-- The timers of the sites of an accepted OPERATE started, those TRIPPED left out (R12). -/
def startTimers (mask : SiteMask) (s : State) : State :=
  (allSites.filter fun i => inMask mask i && s.sites[i].state != .tripped).foldl (fun s i => startTimer i s) s

/-- The unit in flight learns that its ACCEPT has been taken. -/
def unitAccepted (s : State) : State :=
  { s with run := { s.run with inflight := s.run.inflight.map fun u =>
      match u.kind with
      | .operate _ => { u with kind := .operate true }
      | .compare => u } }

/-- The unit in flight resolved. -/
def unitResolved (s : State) : State := { s with run := { s.run with inflight := none } }

/-- An OPERATE's unit resolves when its ACCEPT has been taken and no site of its mask has its busy flag set (R9). -/
def unitDue (s : State) : Option State :=
  match s.run.inflight with
  | some u =>
    if u.kind = .operate true ∧ (allSites.all fun i => !(inMask u.mask i && s.sites[i].busy)) then some (unitResolved s)
    else none
  | none => none

/-- A site taken out of the pending-drop mask: no DROP is sent for a tripped site (R17). -/
def cancelDrop (i : Site) (s : State) : State :=
  { s with hci := { s.hci with pendingDrop := dropSite s.hci.pendingDrop i } }

/-- A site tripped in the unit in flight: it is taken out of the unit and, in an awaited COMPARE, out of the request's mask
(R17). -/
def leaveUnit (i : Site) (s : State) : State :=
  { s with
    run := { s.run with inflight := s.run.inflight.map fun u => { u with mask := dropSite u.mask i } }
    hci := { s.hci with outstanding := s.hci.outstanding.map fun o =>
      match o.request with
      | .compare g size u mask data => { o with request := .compare g size u (dropSite mask i) data }
      | _ => o } }

end Sys2Proof.Machine
end

