-- ==== Sys2Proof/Machine/LinkOut.lean ====
section
/-! DEFINITION. Ending a run (R72), and the Link Controller's outgoing set and states (R121 to R128). -/

namespace Sys2Proof.Machine

/-- An end cause taken: in a run that is not already ending it is recorded and the teardown begins, with ABANDON handed over for
every cause but COMPLETE and NO SITES (R72, R73, R74). -/
def endRun (cause : EndCause) (s : State) : State :=
  if s.run.seq = .idle ∨ s.run.ending.isSome then s
  else
    let s := { s with run := { s.run with ending := some cause, teardown := .abandon } }
    if cause = .complete ∨ cause = .noSites then s else handAbandon s

/-! ## The outgoing set -/

/-- A frame put into an outgoing set, in place of a pending one of its kind (R121). -/
def Outgoing.put (o : Outgoing) : Frame → Outgoing
  | .release u => { o with release := some u }
  | .withdraw => { o with withdraw := true }
  | .leave g => { o with leave := some g }
  | .state _ _ => { o with state := true }
  | .roll _ => { o with roll := true }
  | .mark g k => { o with mark := some (g, k) }
  | .wait n => { o with wait := some n }
  | .claim u st => { o with claim := some (u, st) }

/-- The frame of a kind taken out of an outgoing set. -/
def Outgoing.remove (o : Outgoing) : FrameKind → Outgoing
  | .release => { o with release := none }
  | .withdraw => { o with withdraw := false }
  | .leave => { o with leave := none }
  | .state => { o with state := false }
  | .roll => { o with roll := false }
  | .mark => { o with mark := none }
  | .wait => { o with wait := none }
  | .claim => { o with claim := none }

/-- A frame handed to the outgoing set; a MUTE or OFF link discards it at once. An attempt with a frame of the kind that is on
the line is not touched, and remembers that its frame has been replaced (R121). -/
def handFrame (f : Frame) (s : State) : State :=
  if linkSends s then
    { s with link := { s.link with
        out := s.link.out.put f
        attempt := s.link.attempt.map fun a => if a.frame.kind = f.kind then { a with replaced := true } else a } }
  else s

/-- A pending frame removed by its owner; an attempt on the line is not touched (R121). -/
def removeFrame (k : FrameKind) (s : State) : State :=
  { s with link := { s.link with out := s.link.out.remove k } }

/-- The frame of the outgoing set with the lowest key, its payload as it stands now: the lowest kind code (R121). STATE takes the
own held figure and the own budget (R131), ROLL the own budget (R126). -/
def lowestFrame (s : State) : Option Frame :=
  let o := s.link.out
  match o.release, o.withdraw, o.leave, o.state, o.roll, o.mark, o.wait, o.claim with
  | some u, _, _, _, _, _, _, _ => some (.release u)
  | none, true, _, _, _, _, _, _ => some .withdraw
  | none, false, some g, _, _, _, _, _ => some (.leave g)
  | none, false, none, true, _, _, _, _ => some (.state s.peers[s.link.own].held s.link.ownBudget)
  | none, false, none, false, true, _, _, _ => some (.roll s.link.ownBudget)
  | none, false, none, false, false, some (g, k), _, _ => some (.mark g k)
  | none, false, none, false, false, none, some n, _ => some (.wait n)
  | none, false, none, false, false, none, none, some (u, st) => some (.claim u st)
  | none, false, none, false, false, none, none, none => none

/-- The attempt on the line over, its frame carried: the frame is removed unless its owner has replaced it, and the
consecutive-objection count is 0 (R121, R122). -/
def attemptCarried (a : Attempt) (s : State) : State :=
  { s with link := { s.link with
      out := if a.replaced then s.link.out else s.link.out.remove a.frame.kind
      attempt := none, objections := 0 } }

/-- The Rail Share Unit when its pending frames are discarded by a link gone MUTE: seeking and the kept demand are cleared, and a give-up
under way ends at the discard (R154). In NONE that leaves nothing pending, so the own demand becomes none (R149, step 5); otherwise it
stays with the rail state (log 21). -/
def Rail.muted (r : Rail) : Rail :=
  { r with
    ownDemand := if r.givingUp && r.st == .none then none else r.ownDemand
    seeking := false, givingUp := false, kept := none }

/-- The link becomes MUTE from ROLLING or UP: the outgoing set is discarded, the roll window stops, the Rail Share Unit stops
seeking and giving up, and a run ends LINK MUTE (R127, R154). -/
def goMute (s : State) : State :=
  if linkSends s then
    endRun .linkMute
      { s with
        link := { s.link with st := .mute, out := Outgoing.empty, attempt := none, rollWindow := none }
        rail := s.rail.muted }
  else s

/-- The link becomes OFF (R128). -/
def linkOff (s : State) : State :=
  { s with link := { s.link with st := .off, out := Outgoing.empty, attempt := none, rollWindow := none } }

end Sys2Proof.Machine
end

