-- ==== Sys2Proof/Machine/RailShare.lean ====
section
/-! DEFINITION. The Rail Share Unit: claiming, waiting, releasing and giving up (R140 to R154). -/

namespace Sys2Proof.Machine

/-- The step index a CLAIM carries: the current step of the run (R144). -/
def claimStep (s : State) : Nat := s.run.current.getD 0

/-- The claim rule evaluated for the own demand, and its action table (R144). A station that is not seeking, or is giving up,
makes no evaluation (R145). -/
def evaluateClaim (s : State) : State :=
  match s.rail.ownDemand with
  | none => s
  | some d =>
    if s.rail.seeking && !s.rail.givingUp then
      if claimRule s d then
        let s := if s.link.out.claim.map (·.1) = some d then s else handFrame (.claim d (claimStep s)) s
        if s.rail.st = .none then removeFrame .wait s else s
      else
        let s := removeFrame .claim s
        if s.rail.st = .none ∧ s.link.st = .up ∧ s.link.out.wait = none then handFrame (.wait d) s else s
    else s

/-- A demand taken up: it becomes the own demand, the station seeks, and the rule is evaluated (R140). -/
def seekDemand (d : Nat) (s : State) : State :=
  evaluateClaim { s with rail := { s.rail with ownDemand := some d, seeking := true } }

/-- A demand handed over by the Run Sequencer; while a give-up is under way it is kept (R140, R150). -/
def handDemand (d : Nat) (s : State) : State :=
  if s.rail.givingUp then { s with rail := { s.rail with kept := some d } } else seekDemand d s

/-- The give-up ends: giving up cleared, own demand none, and a kept demand taken up (R149 step 5, R150). -/
def endGiveUp (s : State) : State :=
  let kept := s.rail.kept
  let s := { s with rail := { s.rail with givingUp := false, ownDemand := none, kept := none } }
  match kept with
  | some d => seekDemand d s
  | none => s

/-- Step 3 of the give-up: RELEASE of what is held, WITHDRAW of what is awaited, unless one is already pending (R149). -/
def giveBack (s : State) : State :=
  match s.rail.st with
  | .holding => if framePending s.link .release then s else handFrame (.release s.peers[s.link.own].held) s
  | .waiting => if framePending s.link .withdraw then s else handFrame .withdraw s
  | .none => s

/-- Steps 3 to 5 of a give-up under way (R149). On a link that discards frames it ends at the discard (R154). -/
def giveUpSteps (s : State) : State :=
  if s.rail.givingUp then
    let s := giveBack s
    if s.rail.st = .none ∧ noRailFrame s.link then endGiveUp s
    else if linkSends s then s
    else { s with rail := { s.rail with givingUp := false } }
  else s

/-- The give-up: seeking cleared, a kept demand dropped, pending CLAIM and WAIT removed, then steps 3 to 5 (R149, R150). -/
def giveUp (s : State) : State :=
  giveUpSteps (removeFrame .wait (removeFrame .claim
    { s with rail := { s.rail with seeking := false, givingUp := true, kept := none } }))

/-- The release that ends a pass that made a claim, the station HOLDING: the own demand is cleared and RELEASE of the held
figure is handed over (R148). -/
def releasePass (s : State) : State :=
  if s.rail.st = .holding then
    handFrame (.release s.peers[s.link.own].held) { s with rail := { s.rail with ownDemand := none } }
  else s

/-- The Rail Share Unit's answer to a lowered effective budget (R152). -/
def budgetLowered (s : State) : State :=
  match s.rail.ownDemand with
  | some d =>
    if s.rail.seeking then
      evaluateClaim (if currentLimit s < d then endRun .supplyRange s else s)
    else s
  | none => s

/-- An own CLAIM or WAIT lost or objected (R146): evaluated again while seeking, removed otherwise; other frames stay. -/
def attemptFailed (k : FrameKind) (s : State) : State :=
  giveUpSteps
    (match k with
     | .claim => if s.rail.seeking then evaluateClaim s else removeFrame .claim s
     | .wait => if s.rail.seeking then s else removeFrame .wait s
     | _ => s)

/-- The rail state after an own frame of a kind is carried (R141). A CLAIM carried leaves nothing to seek or to claim (R146). -/
def railStateCarried (k : FrameKind) (s : State) : State :=
  match k, s.rail.st with
  | .wait, .none => { s with rail := { s.rail with st := .waiting } }
  | .claim, .none => removeFrame .claim { s with rail := { s.rail with st := .holding, seeking := false } }
  | .claim, .waiting => removeFrame .claim { s with rail := { s.rail with st := .holding, seeking := false } }
  | .release, .holding => { s with rail := { s.rail with st := .none } }
  | .withdraw, .waiting => { s with rail := { s.rail with st := .none } }
  | _, _ => s

/-- What the Rail Share Unit does when it is told that an own frame was carried: the rail state, the claim rule again, and the
steps of a give-up under way (R141, R145, R146, R149). -/
def railCarried (k : FrameKind) (s : State) : State := giveUpSteps (evaluateClaim (railStateCarried k s))

end Sys2Proof.Machine
end

