-- ==== Sys2Proof/Machine/SyncMarks.lean ====
section
/-! DEFINITION. The Sync Unit: joining, marking, the passing condition, timeouts and leaving (R160 to R165). -/

namespace Sys2Proof.Machine

/-- The Run Sequencer takes the report that the SYNC step has passed: the step exits while RUNNING, and the report is held while
PAUSING or PAUSED, be the run ending or not (R58, R70, R162). While RUNNING a run that is ending exits no step (log 15). The timer stops;
what the sync remaining then holds, the value at which it stopped, is the model's choice (log 34). -/
def syncPassed (s : State) : State :=
  match s.run.seq with
  | .running =>
    if s.run.ending = none ∧ s.run.stage = .sync then { s with run := { s.run with phase := .exit, stage := .exit } } else s
  | .pausing | .paused => { s with run := { s.run with heldSyncPass := true } }
  | .idle => s

/-- The passing condition evaluated while the station is WAITING (R161). That a station whose own group became none at its LEAVE goes on
evaluating for the group it left is the model's choice (log 35). -/
def evaluateSync (s : State) : State :=
  match s.sync.awaited, waitGroup s with
  | some m, some g =>
    if passingCondition s g m then syncPassed { s with sync := { s.sync with awaited := none } } else s
  | _, _ => s

/-- The station joins its group at the start of a run: membership, mark count 0, MARK mark 0 (R160). -/
def joinGroup (g : Group) (s : State) : State :=
  handFrame (.mark g 0) { s with sync := { s.sync with ownGroup := some g, markCount := 0 } }

/-- A SYNC step marked: passed at once by a station that is no member; otherwise the mark count rises, MARK is handed over, the
mark is awaited and the condition is evaluated (R161). -/
def markStep (s : State) : State :=
  match s.sync.ownGroup with
  | none => syncPassed s
  | some g =>
    let m := s.sync.markCount + 1
    evaluateSync (handFrame (.mark g m) { s with sync := { s.sync with markCount := m, awaited := some m, markCarried := false } })

/-- The own MARK for the awaited mark has been carried (R163). -/
def ownMarkCarried (f : Frame) (s : State) : State :=
  match f with
  | .mark _ k => if s.sync.awaited = some k then { s with sync := { s.sync with markCarried := true } } else s
  | _ => s

/-- The sync timeout at the Sync Unit: the laggard mask formed, and nothing awaited any more (R163). -/
def syncTimedOut (s : State) : State :=
  match s.sync.awaited, waitGroup s with
  | some m, some g => { s with sync := { s.sync with laggards := laggardMask s g m, awaited := none } }
  | _, _ => s

/-- Step 3 of the ordinary teardown: a member's pending MARK is removed, LEAVE is handed over, and the own group becomes none
(R73, R164). -/
def leaveGroup (s : State) : State :=
  match s.sync.ownGroup with
  | none => s
  | some g => handFrame (.leave g) (removeFrame .mark { s with sync := { s.sync with ownGroup := none } })

/-- The Sync Unit's run state cleared at run end (R164). -/
def clearSyncRun (s : State) : State := { s with sync := SyncUnit.reset }

end Sys2Proof.Machine
end

