-- ==== Sys2Proof/Machine/Sequencer.lean ====
section
/-! DEFINITION. The Run Sequencer: step entry and exit, passes and visits, settling of pauses, teardown and run end (R62 to R80). `settle` runs
its own actions to rest. -/

namespace Sys2Proof.Machine

/-! ## The Unit Address Generator (R40 to R48) -/

/-- The loaded fields of an address step (R42). -/
def uagLoadOf (pr : Profile) (kind : AddrKind) (a : AddrPart) : UagLoad :=
  let g := spaceExp pr a.granule
  let w := if a.wrap = 0 then g else a.wrap
  if a.granule = .device then
    { kind := kind, granule := .device, g := 0, w := 0, h := 0, e := 0, dir := .up, count := a.count, repeats := a.repeats
      base := a.base }
  else
    { kind := kind, granule := a.granule, g := g, w := w, h := a.base - a.base % 2 ^ w, e := a.stride % 2 ^ w, dir := a.dir
      count := a.count, repeats := a.repeats, base := a.base }

/-- The UAG loaded with a step, its position not begun (R42). -/
def loadUag (kind : AddrKind) (a : AddrPart) (s : State) : State :=
  { s with uag := { loaded := true, load := uagLoadOf s.profile kind a, r := 0, v := 0, u := none, ended := false } }

/-- The UAG unloaded; its loaded fields keep what they held (R40, R41). -/
def unloadUag (s : State) : State :=
  { s with uag := { s.uag with loaded := false, r := 0, v := 0, u := none, ended := false } }

/-- The UAG restarted at the start of a pass (R43). -/
def restartUag (s : State) : State :=
  { s with
    uag := if s.uag.loaded then { s.uag with r := 0, v := 0, u := none, ended := false } else s.uag
    run := { s.run with restarted := true } }

/-- The unit that follows a unit inside its window (R45); a DEVICE step is not stepped (R48). -/
def nextUnit (l : UagLoad) (u : Nat) : Nat :=
  let size := 2 ^ l.w
  let off := u % size
  match l.dir with
  | .up => l.h + (off + l.e) % size
  | .down => l.h + (off + size - l.e) % size

/-- The answer to an advance request: the new position, and the unit of the visit, or none at the end of the sequence (R44). -/
def advanceUag (x : Uag) : Uag × Option Nat :=
  if x.ended then (x, none)
  else if x.r = 0 then ({ x with r := 1, v := 1, u := some x.load.base }, some x.load.base)
  else if x.v < x.load.count then
    let n := nextUnit x.load (x.u.getD x.load.base)
    ({ x with v := x.v + 1, u := some n }, some n)
  else if x.r < x.load.repeats then ({ x with r := x.r + 1, v := 1, u := some x.load.base }, some x.load.base)
  else ({ x with ended := true }, none)

/-! ## Visits (R49 to R55) -/

/-- A visit of the loaded step is EXCLUDED (R49). -/
def visitExcluded (s : State) (u : Nat) : Bool :=
  s.uag.load.kind != .verify && inExclusion s.profile s.uag.load.granule u

/-- The request of a NORMAL visit (R12, R13, R52). -/
def visitRequest (s : State) (u : Nat) (mask : SiteMask) : Request :=
  let g := s.uag.load.granule
  let size := unitSize s.profile g
  match s.run.record with
  | some (.program _ data _ _ _) => .operate g size u mask (some data)
  | some (.verify _ data _ _) => .compare g size u mask data
  | _ => .operate g size u mask none

/-- A NORMAL visit issued: counted, the unit-failed marks cleared, the visit in flight, its request handed over (R52, R55, R102). -/
def issueVisit (u : Nat) (mask : SiteMask) (s : State) : State :=
  let kind : UnitKind := if s.uag.load.kind = .verify then .compare else .operate false
  let flight : Flight :=
    { kind := kind, step := s.run.current.getD 0, rep := s.uag.r, granule := s.uag.load.granule, unit := u, mask := mask }
  let s := clearUnitFailed s
  handRequest (visitRequest s u mask)
    { s with run := { s.run with issued := s.run.issued + 1, inflight := some flight } }

/-- A visit classified and counted: EXCLUDED first, then NO SITE, then NORMAL (R52, R53, R55). -/
def takeVisit (u : Nat) (s : State) : State :=
  let s := { s with run := { s.run with produced := s.run.produced + 1 } }
  if visitExcluded s u then { s with run := { s.run with excluded := s.run.excluded + 1 } }
  else
    let mask := visitMask s s.uag.load.granule u
    if mask = 0 then { s with run := { s.run with noSite := s.run.noSite + 1 } } else issueVisit u mask s

/-- One advance request and what follows from its answer (R44, R67). -/
def advanceVisit (s : State) : State :=
  match advanceUag s.uag with
  | (x, some u) => takeVisit u { s with uag := x }
  | (x, none) => { s with uag := x }

/-! ## Steps and passes (R63 to R71) -/

/-- The Busy Timer Array told of a step at its entry (R86). -/
def timeStep (k : Nat) (rec : StepRecord) (s : State) : State :=
  let load (limits : Limits) (bin : Nat) (action : FailAction) : State :=
    clearStats { s with timers := { s.timers with timed := some { step := k, limits := limits, action := action, bin := bin } } }
  match rec with
  | .erase _ l bin action => load (l.getD s.profile.eraseLimits) bin action
  | .program _ _ l bin action => load (l.getD s.profile.programLimits) bin action
  | .verify .. | .dwell _ | .sync .. => s

/-- The plan of one pass with all sixteen sites as members (R63, R64). -/
def onePassPlan (s : State) : State :=
  { s with run := { s.run with passes := 1, passSize := 16, members := [maskOf fun _ => true] } }

/-- The pass plan of an ERASE or PROGRAM step formed at step entry (R64). -/
def formPassPlan (s : State) : State :=
  if currentDraw s = 0 then onePassPlan s
  else match passSelection (activeCount s) (currentDraw s) (currentLimit s) with
    | none => endRun .supplyRange s
    | some (m, p) => { s with run := { s.run with passes := p, passSize := m, members := passChunks s m p } }

/-- A step entered, up to the point where its first phase is about to begin (R63). -/
def beginStep (rec : StepRecord) (s : State) : State :=
  match rec.addr? with
  | some (kind, a) =>
    let s := loadUag kind a s
    if kind = .verify then onePassPlan s else formPassPlan s
  | none => unloadUag s

/-- Step entry: NO SITES when no site is ACTIVE; otherwise the step becomes current (R63). -/
def enterStep (k : Nat) (rec : StepRecord) (s : State) : State :=
  if activeCount s = 0 then endRun .noSites s
  else
    let s := { s with run := { s.run with
      phase := .entry, stage := .begin, current := some k, record := some rec, produced := 0, issued := 0, excluded := 0
      noSite := 0, pass := 0, passes := 0, passSize := 0, members := [], passDemand := 0, restarted := false } }
    beginStep rec (timeStep k rec s)

/-- A pass without a claim runs its visits in phase OPERATE or COMPARE; the UAG is restarted unless the pass has been (R63,
R64, R65). That a pass paused in SUPPLY before its restart still gets one is the model's choice (log 10 with its claim, log 40 without). -/
def runVisits (phase : Phase) (s : State) : State :=
  let s := { s with run := { s.run with phase := phase, stage := .visits } }
  if s.run.restarted then s else restartUag s

/-- The first phase of the current step begun (R63). -/
def beginPhase (rec : StepRecord) (s : State) : State :=
  match rec with
  | .verify .. => runVisits .compare { s with run := { s.run with pass := 1, restarted := false } }
  | .erase .. | .program .. =>
    if currentDraw s = 0 then runVisits .operate { s with run := { s.run with pass := 1, restarted := false } }
    else { s with run := { s.run with stage := .passStart } }
  | .dwell t => { s with run := { s.run with phase := .dwell, stage := .dwell, dwellRem := t * Config.ticksPerMs } }
  | .sync t _ =>
    markStep { s with run := { s.run with
      phase := .sync, stage := .sync, syncRem := if t = 0 then none else some (t * Config.ticksPerMs) } }

/-- The supply-wait remaining loaded with the profile's limit (R66). -/
def loadSupplyWait (s : State) : State :=
  { s with run := { s.run with
      supplyRem := if s.profile.supplyLimit = 0 then none else some (s.profile.supplyLimit * Config.ticksPerMs) } }

/-- The pass demand computed and checked in phase SUPPLY, and handed to the Rail Share Unit (R65, R140). `reload` says whether
the supply wait is loaded anew (R66). -/
def claimForPass (reload : Bool) (s : State) : State :=
  let d := railDemand (activeMembers s) (currentDraw s)
  let s := { s with run := { s.run with phase := .supply, stage := .supply, passDemand := d } }
  if currentLimit s < d then endRun .supplyRange s
  else handDemand d (if reload then loadSupplyWait s else s)

/-- The exit phase entered (R68, R71). -/
def enterExit (s : State) : State := { s with run := { s.run with phase := .exit, stage := .exit } }

/-- The next pass of a drawing step started, skipped when none of its members is ACTIVE, or the step's exit after the last
pass (R65). -/
def startPass (s : State) : State :=
  if s.run.passes ≤ s.run.pass then enterExit s
  else
    let s := { s with run := { s.run with pass := s.run.pass + 1, phase := .supply, passDemand := 0, restarted := false } }
    if activeMembers s = 0 then s else claimForPass true s

/-- Re-entry to SUPPLY after a pause: the remainder of the pass runs without a claim when none of its members is ACTIVE (R65,
R66). That a pass without an ACTIVE member which was paused before its restart is restarted here, so that its visits are produced and
counted, is the model's choice, since R65 and R43 differ (log 40). -/
def reenterSupply (fromSupply : Bool) (s : State) : State :=
  if activeMembers s = 0 then runVisits .operate { s with run := { s.run with passDemand := 0 } }
  else claimForPass (!fromSupply) s

/-- The claim of the pass has been carried: the visits begin, and the supply wait stops with the phase it counts in (R65, R66). What
the stopped time then holds, the value at which it stopped, is the model's choice (log 34). -/
def beginClaimedPass (s : State) : State := runVisits .operate s

/-- The end of a pass: the RELEASE of a pass that made a claim, then the next pass start or phase EXIT (R68). -/
def endPass (s : State) : State :=
  let claimed := s.run.passDemand != 0
  let s := if claimed then releasePass s else s
  if s.run.passes ≤ s.run.pass then enterExit s
  else { s with run := { s.run with stage := if claimed then .closing else .passStart } }

/-- The step exit completed: COMPLETE after the run's last step, otherwise the next index (R71). -/
def exitStep (s : State) : State :=
  let k := s.run.current.getD 0
  let s := { s with run := { s.run with stepsCompleted := s.run.stepsCompleted + 1, pass := 0 } }
  if s.run.last ≤ k then endRun .complete s
  else { s with run := { s.run with phase := .entry, stage := .enter (k + 1) } }

/-! ## The end of a run (R75, R76) -/

/-- The result record as it is written at the end of a run (R76). -/
def resultOf (cause : EndCause) (s : State) : ResultRec :=
  { cause := cause, lastStep := s.run.current
    rep := if s.uag.r = 0 then none else some s.uag.r
    unit := if s.uag.r = 0 then none else s.uag.u
    stepsCompleted := s.run.stepsCompleted, laggards := s.sync.laggards, alertCount := s.alert.count
    err := if cause = .headLink then s.hci.err else none
    bins := tabulate 16 fun i => s.sites[i].bin, states := tabulate 16 fun i => s.sites[i].state }

/-- The end of a run, up to the completion of its blocks: done event, result record, UAG unloaded, Sync Unit cleared, guard
stopped, flags cleared, IDLE (R75). -/
def closeRun (cause : EndCause) (s : State) : State :=
  let s := doneEvent cause s
  let s := { s with run := { s.run with result := some (resultOf cause s) } }
  let s := clearSyncRun (unloadUag s)
  { s with run := { s.run with
      guardRem := 0, heldPause := false, heldSyncPass := false, ending := none, teardown := .abandon, seq := .idle
      stage := .idle, inflight := none } }

/-- The end of a run, its outstanding blocks completed (R75). -/
def finishRunEnd (cause : EndCause) (s : State) : State := finishBlocks cause (writeRunResult (closeRun cause s))

/-- The shortened teardown of R74 for HALTED and CARD RESET: ABANDON sent at once unless the run's teardown has sent it already,
a held or outstanding ABANDON given up. -/
def cutShort (s : State) : State :=
  let unsent := s.run.ending = none ∨ s.run.ending = some .complete ∨ s.run.ending = some .noSites ∨ s.hci.held = some .abandon
  if unsent then abandonNow s else hciIdle s

/-! ## The sequencer's own actions -/

/-- The teardown's next action; none while it waits. The frames of steps 2 and 3 are handed over together once step 1 is finished, and
the outgoing set carries the RELEASE or WITHDRAW ahead of the LEAVE (R73, R74, log 11). -/
def teardownDue (cause : EndCause) (s : State) : Option State :=
  match s.run.teardown with
  | .abandon =>
    if abandonBusy s.hci then none
    else if cause = .linkMute then some (finishRunEnd cause s)
    else some (leaveGroup (giveUp { s with run := { s.run with teardown := .frames } }))
  | .frames =>
    if s.rail.givingUp ∨ framePending s.link .leave then none
    else if linkSends s ∧ ¬ (s.rail.st = .none ∧ framePending s.link .claim = false ∧ framePending s.link .wait = false) then none
    else some (finishRunEnd cause s)

/-- The first phase, not yet begun, of the step at an index (R78). -/
def stepPoint (k : Nat) (s : State) : Option ResumePoint :=
  (s.store.steps[k]?).join.map fun rec => { phase := firstPhaseOf s.profile rec, pass := 0 }

/-- The resume point of a run that pauses where it stands: the last column of R78's table. The last step's exit has none (log 26). -/
def resumePoint (s : State) : Option ResumePoint :=
  match s.run.stage with
  | .idle => none
  | .contact => stepPoint s.run.first s
  | .enter k => stepPoint k s
  | .begin => s.run.record.map fun rec => { phase := firstPhaseOf s.profile rec, pass := s.run.pass }
  | .passStart | .closing => some { phase := .supply, pass := s.run.pass + 1 }
  | .reenter _ | .supply => some { phase := .supply, pass := s.run.pass }
  | .visits => some { phase := if s.run.passDemand = 0 then s.run.phase else .supply, pass := s.run.pass }
  | .dwell => some { phase := .dwell, pass := s.run.pass }
  | .sync => some { phase := .sync, pass := s.run.pass }
  | .exit => if s.run.last ≤ s.run.current.getD 0 then none else stepPoint (s.run.current.getD 0 + 1) s

/-- The resume point recorded (R59, R78). -/
def recordResume (s : State) : State := { s with run := { s.run with resume := resumePoint s } }

/-- The sequencer becomes PAUSED at a stage, and the PAUSE block completes OK (R77, R78). -/
def becomePaused (stage : Stage) (s : State) : State :=
  finishPause .ok { s with run := { s.run with seq := .paused, stage := stage } }

/-- Step entry when the entry holds a record; a run's range has no gaps (R36, log 19). -/
def enterDue (k : Nat) (s : State) : Option State :=
  match (s.store.steps[k]?).join with
  | some rec => some (enterStep k rec s)
  | none => none

/-- A re-entry whose pass has no ACTIVE member makes no demand that the give-up could keep, so it waits until the rail is given back
(R80, R150). That the supply wait, which counts on meanwhile in phase SUPPLY, does not end the run is the model's choice (log 37). -/
def reentryWaits (s : State) : Bool := s.rail.givingUp && activeMembers s == 0

/-- The next action of a RUNNING run (R63 to R71); none while it waits for an event. -/
def runningDue (s : State) : Option State :=
  match s.run.stage with
  | .idle | .contact | .dwell | .sync => none
  | .enter k => enterDue k s
  | .begin => s.run.record.map fun rec => beginPhase rec s
  | .passStart => some (startPass s)
  | .reenter fromSupply => if reentryWaits s then none else some (reenterSupply fromSupply s)
  | .supply => if s.rail.st = .holding ∧ s.rail.givingUp = false then some (beginClaimedPass s) else none
  | .visits =>
    if s.run.inflight.isSome then none
    else if s.uag.ended then (if dropBusy s.hci then none else some (endPass s))
    else if s.uag.loaded then some (advanceVisit s) else none
  | .closing => if s.rail.st = .none then some { s with run := { s.run with stage := .passStart } } else none
  | .exit => if s.rail.st = .none then some (exitStep s) else none

/-- The next action of a PAUSING run: the work in flight is brought to rest (R78); none while it waits for an event. A run that is not
ending has a link that sends (R127, R128). -/
def pausingDue (s : State) : Option State :=
  match s.run.stage with
  | .idle | .contact => none
  | .enter k => enterDue k s
  | .begin => some (becomePaused .begin s)
  | .passStart => some (becomePaused .passStart s)
  | .reenter fromSupply => if s.rail.givingUp then none else some (becomePaused (.reenter fromSupply) s)
  | .supply => if railSettled s then some (becomePaused (.reenter true) s) else none
  | .visits =>
    if s.run.inflight.isSome ∨ dropBusy s.hci then none
    else if s.uag.ended then some (endPass s)
    else if s.run.passDemand = 0 then some (becomePaused .visits s)
    else if railSettled s then some (becomePaused (.reenter false) s)
    else if s.rail.givingUp then none
    else if s.rail.st = .holding ∧ linkSends s then some (giveUp s) else none
  | .closing => if s.rail.st = .none then some { s with run := { s.run with stage := .passStart } } else none
  | .dwell => some (becomePaused .dwell s)
  | .sync => some (becomePaused .sync s)
  | .exit => if s.rail.st = .none then some (exitStep s) else none

/-- The Run Sequencer's next own action, if one is due. While PAUSING the resume point follows the run (R78). In a run that is ending the
report of a CLAIM carried (R146) brings no action: no visit is made (R67) and the UAG's position stays (R56). That the phase stays SUPPLY
too is the model's choice (log 38). -/
def sequencerDue (s : State) : Option State :=
  match s.run.seq, s.run.ending with
  | .idle, _ => none
  | _, some cause => teardownDue cause s
  | .running, none => runningDue s
  | .pausing, none => (pausingDue s).map recordResume
  | .paused, none => none

/-- The card's next own action: the HCI sends what is due, the unit in flight resolves, the sequencer goes on (R10, R9, R67). -/
def nextAction (s : State) : Option State :=
  match hciDue s with
  | some s' => some s'
  | none => match unitDue s with
    | some s' => some s'
    | none => sequencerDue s

/-- The card's own actions, at most `fuel` of them, run to rest. -/
def settleFor : Nat → State → State
  | 0, s => s
  | fuel + 1, s =>
    match nextAction s with
    | some s' => settleFor fuel s'
    | none => s

/-- More own actions than a step can hold: a run has at most 128 steps of at most 16 passes of 2^24 visits (R46, log 20). -/
def settleFuel : Nat := 2 ^ 37

/-- The card's own actions run to rest after an event. -/
def settle (s : State) : State := settleFor settleFuel s

end Sys2Proof.Machine
end

