-- ==== Sys2Proof/Machine/WindowCommands.lean ====
section
/-! DEFINITION. Writes of the command window: the post cell, the attention cell and the block and buffer area (R177 to R179, R185). -/

namespace Sys2Proof.Machine

/-- A post's offset is valid: a multiple of 64 in 0x100..0xFC0 (R178). -/
def postValid (off : Nat) : Bool := off % 64 == 0 && decide (0x100 ≤ off ∧ off ≤ 0xFC0)

/-- A copied block queued by its class, or completed at once (R179). -/
def enqueue (b : Block) (s : State) : State :=
  match cmdOfCode b.code with
  | none => respond b .commandUnknown s
  | some c =>
    if c.isPlan then
      if s.cwc.plan.length < Config.planPlaces then { s with cwc := { s.cwc with plan := s.cwc.plan ++ [b] } }
      else respond b .queueFull s
    else
      if s.cwc.urgent.length < Config.urgentPlaces then { s with cwc := { s.cwc with urgent := s.cwc.urgent ++ [b] } }
      else respond b .queueFull s

/-- The block at an offset as it is copied at a post (R178). -/
def copyBlock (off : Nat) (s : State) : Block := { offset := off, bytes := readBytes s off 64 }

/-- A completed post: the value is shown by the post cell; a valid one copies the block, sets its done flag to 0xFF and queues the
copy, an invalid one is counted (R178). -/
def takePost (value : BitVec 16) (s : State) : State :=
  let off := value.toNat
  let s := { s with cwc := { s.cwc with postCell := value } }
  if postValid off then enqueue (copyBlock off s) (writeArea (off + 2) 0xFF s)
  else { s with cwc := { s.cwc with badPosts := satAdd 65535 s.cwc.badPosts 1 } }

/-- The first byte of the post cell held (R178). -/
def holdPostByte (v : Byte) (s : State) : State := { s with cwc := { s.cwc with postHeld := v } }

/-- The second byte of the post cell written (R178). -/
def postSecondByte (v : Byte) (s : State) : State := takePost (s.cwc.postHeld ++ v) s

/-- The first byte of the attention cell held (R185). -/
def holdAttentionByte (v : Byte) (s : State) : State := { s with cwc := { s.cwc with attentionHeld := v } }

/-- The second byte of the attention cell written: the count is lowered by the value, and not below 0 (R185). -/
def attentionSecondByte (v : Byte) (s : State) : State :=
  { s with cwc := { s.cwc with attention := s.cwc.attention - (s.cwc.attentionHeld ++ v).toNat } }

/-- POST_FIRST_BYTE (R178). -/
def execPostFirstByte (value : Byte) (s : State) : Host.Outcome State Fault Refusal := .next (holdPostByte value s)

/-- POST (R178, R179). -/
def execPost (value : Byte) (s : State) : Host.Outcome State Fault Refusal := .next (postSecondByte value s)

/-- ATTENTION_FIRST_BYTE (R185). -/
def execAttentionFirstByte (value : Byte) (s : State) : Host.Outcome State Fault Refusal := .next (holdAttentionByte value s)

/-- ATTENTION_ACKNOWLEDGE (R185). -/
def execAttentionAcknowledge (value : Byte) (s : State) : Host.Outcome State Fault Refusal :=
  .next (attentionSecondByte value s)

/-- WINDOW_WRITE (R177): stored in the block and buffer area, ignored in the status and unused areas. A write named at a byte of
the post or the attention cell acts as that cell's own command (log 25). There is no byte outside the window. -/
def execWindowWrite (offset : Nat) (value : Byte) (s : State) : Host.Outcome State Fault Refusal :=
  if Config.windowSize ≤ offset then .fault .windowOffset
  else if offset = 0x40 then .next (holdPostByte value s)
  else if offset = 0x41 then .next (postSecondByte value s)
  else if offset = 0x42 then .next (holdAttentionByte value s)
  else if offset = 0x43 then .next (attentionSecondByte value s)
  else .next (writeArea offset value s)

end Sys2Proof.Machine
end

