-- ==== Sys2Proof/Machine/PlanCommands.lean ====
section
/-! DEFINITION. The plan-queue commands: SET-PROFILE, DEFINE-STEP, DELETE-STEPS, RUN, SET-STOP-OPTION, SITE-RESTORE and CLEAR-RESULTS. -/

namespace Sys2Proof.Machine

/-- SET-PROFILE's conditions, in order (R26). -/
def setProfileChecks (b : Block) (s : State) : List (Bool × Response) :=
  [(runActive s, .runActive),
   (stepsDefined s != 0, .profileInUse),
   (decide (4 < b.windowCount), .profileRange),
   (b.opLength != 28 + 4 * b.windowCount, .operandLength),
   (!(profileOperand b).inRange, .profileRange)]

/-- SET-PROFILE at the Plan Store (R26). -/
def setProfileOwner (b : Block) (s : State) : State :=
  guarded b (setProfileChecks b s)
    (fun s => respond b .ok { s with store := { s.store with profile := some (profileOperand b) } }) s

/-- SET_PROFILE (R26). -/
def execSetProfile (s : State) : Host.Outcome State Fault Refusal := .next (serve .setProfile setProfileOwner s)

/-- The space exponent of the operand's granule, under the profile in force (R23). -/
def stepSpace (b : Block) (s : State) : Nat := spaceExp s.profile (b.granule.getD .device)

/-- The window width that the operand's wrap width gives (R28). -/
def stepWindow (b : Block) (s : State) : Nat := if b.wrap = 0 then stepSpace b s else b.wrap

/-- DEFINE-STEP's conditions, in order (R35). Conditions of a part are examined only for the kinds that have the part. -/
def defineStepChecks (b : Block) (s : State) : List (Bool × Response) :=
  let stepped := b.hasAddress && b.granule != some .device
  [(decide (127 < b.stepIndex), .stepRange),
   (s.run.seq == .running || s.run.seq == .pausing, .runActive),
   (s.run.seq == .paused && decide (b.stepIndex ≤ s.run.current.getD 0), .stepInUse),
   (s.store.profile.isNone, .noProfile),
   (!decide (1 ≤ b.kindCode ∧ b.kindCode ≤ 5), .kindUnknown),
   (!b.stepLengthOk, .operandLength),
   (!b.stepCodesOk, .kindUnknown),
   (b.hasAddress && !b.granuleAllowed, .granuleNotAllowed),
   (stepped && decide (stepSpace b s < b.wrap), .wrapRange),
   (b.hasAddress && decide (2 ^ stepSpace b s ≤ b.base), .baseRange),
   (b.hasAddress && !decide (1 ≤ b.count ∧ b.count ≤ 65536) || b.kindCode == 4 && b.millis == 0, .countRange),
   (stepped && (!decide (1 ≤ b.stride ∧ b.stride ≤ 4095) || b.stride % 2 ^ stepWindow b s == 0), .strideRange),
   (b.hasAddress && !decide (1 ≤ b.repeats ∧ b.repeats ≤ 256), .repeatRange),
   (b.mayLimit && b.limitsFlag == some true && !b.limits.ordered, .limitOrder),
   (b.hasAddress && !decide (1 ≤ b.failBin ∧ b.failBin ≤ 15), .binRange)]

/-- An entry of the step table written. -/
def writeStep (k : Nat) (rec : Option StepRecord) (s : State) : State :=
  { s with store := { s.store with steps := s.store.steps.setIfInBounds k rec } }

/-- DEFINE-STEP at the Plan Store (R34, R35). -/
def defineStepOwner (b : Block) (s : State) : State :=
  guarded b (defineStepChecks b s) (fun s => respond b .ok (writeStep b.stepIndex (some (stepOperand b)) s)) s

/-- DEFINE_STEP (R34). -/
def execDefineStep (s : State) : Host.Outcome State Fault Refusal := .next (serve .defineStep defineStepOwner s)

/-- DELETE-STEPS's conditions, in order (R37). -/
def deleteStepsChecks (b : Block) (s : State) : List (Bool × Response) :=
  [(decide (b.op 1 < b.op 0 ∨ 127 < b.op 1), .stepRange), (runActive s, .runActive)]

/-- The entries first..last emptied (R37). -/
def emptySteps (first last : Nat) (s : State) : State :=
  { s with store := { s.store with
      steps := s.store.steps.mapFinIdx fun k rec _ => if first ≤ k ∧ k ≤ last then none else rec } }

/-- DELETE-STEPS at the Plan Store (R37). -/
def deleteStepsOwner (b : Block) (s : State) : State :=
  guarded b (deleteStepsChecks b s) (fun s => respond b .ok (emptySteps (b.op 0) (b.op 1) s)) s

/-- DELETE_STEPS (R37). -/
def execDeleteSteps (s : State) : Host.Outcome State Fault Refusal := .next (serve .deleteSteps deleteStepsOwner s)

/-- Every entry first..last holds a record (R38). -/
def rangeDefined (first last : Nat) (s : State) : Bool :=
  (List.range (last + 1 - first)).all fun j => (s.store.steps[first + j]?).join.isSome

/-- RUN's conditions, in order (R61). -/
def runChecks (b : Block) (s : State) : List (Bool × Response) :=
  [(runActive s, .runActive),
   (s.store.profile.isNone, .noProfile),
   (decide (b.op 1 < b.op 0 ∨ 127 < b.op 1), .stepRange),
   ((runGroupOf (b.op 2)).isNone, .kindUnknown),
   (!rangeDefined (b.op 0) (b.op 1) s, .stepUndefined),
   (s.link.st != .up, .linkNotReady),
   (s.store.stopOption == .shutdown && s.alert.level, .alertActive)]

/-- Step 1 of the start sequence: results, statistics, timers, timed step, error record, result record and alert count cleared
(R62, R85, R110, R168). -/
def clearForRun (s : State) : State :=
  let s := clearStats (clearAccounts s)
  { s with
    timers := { s.timers with values := Vector.replicate 16 0, timed := none }
    hci := { s.hci with err := none }
    run := { s.run with result := none }
    alert := { s.alert with count := 0 } }

/-- An accepted RUN: its block outstanding, the run record set for the new run, and the start sequence up to CONTACT-CHECK (R61, R62). The
current step is absent from here on, as R59 and R61 have it, while the visit counters stand until the first step entry: where R60 would
have the last run's current step shown until then, that is the model's choice (log 39). -/
def startRun (b : Block) (s : State) : State :=
  handRequest .contactCheck
    (clearForRun
      { s with
        cwc := { s.cwc with outRun := some b }
        run := { s.run with
          seq := .running, phase := .entry, stage := .contact, first := b.op 0, last := b.op 1
          group := (runGroupOf (b.op 2)).getD none, current := none, record := none, pass := 0, stepsCompleted := 0
          ending := none, teardown := .abandon, heldPause := false, heldSyncPass := false, inflight := none } })

/-- RUN at the Run Sequencer (R61). -/
def runOwner (b : Block) (s : State) : State := guarded b (runChecks b s) (startRun b) s

/-- RUN (R61). -/
def execRun (s : State) : Host.Outcome State Fault Refusal := .next (serve .run runOwner s)

/-- SET-STOP-OPTION at the Plan Store (R170). -/
def setStopOptionOwner (b : Block) (s : State) : State :=
  guarded b [(runActive s, .runActive), ((stopOptionOf (b.op 0)).isNone, .kindUnknown)]
    (fun s => respond b .ok
      { s with store := { s.store with stopOption := (stopOptionOf (b.op 0)).getD s.store.stopOption } }) s

/-- SET_STOP_OPTION (R170). -/
def execSetStopOption (s : State) : Host.Outcome State Fault Refusal := .next (serve .setStopOption setStopOptionOwner s)

/-- The named TRIPPED sites made VACANT (R7). -/
def restoreSites (mask : SiteMask) (s : State) : State :=
  { s with sites := tabulate 16 fun i =>
      let x := s.sites[i]
      if inMask mask i && x.state == .tripped then { x with state := .vacant } else x }

/-- SITE-RESTORE at the Site Table (R7). -/
def siteRestoreOwner (b : Block) (s : State) : State :=
  guarded b [(runActive s, .runActive), (b.opMask == 0, .siteRange)]
    (fun s => respond b .ok (restoreSites b.opMask s)) s

/-- SITE_RESTORE (R7). -/
def execSiteRestore (s : State) : Host.Outcome State Fault Refusal := .next (serve .siteRestore siteRestoreOwner s)

/-- CLEAR-RESULTS at the fail logic (R111). -/
def clearResultsOwner (b : Block) (s : State) : State :=
  guarded b [(runActive s, .runActive)] (fun s => respond b .ok (clearAccounts s)) s

/-- CLEAR_RESULTS (R111). -/
def execClearResults (s : State) : Host.Outcome State Fault Refusal := .next (serve .clearResults clearResultsOwner s)

end Sys2Proof.Machine
end

