-- ==== Sys2Proof/Machine/ReadCommands.lean ====
section
/-! DEFINITION. The commands that read the card into a buffer, and SNAPSHOT and REWIND-LOG beside them. -/

namespace Sys2Proof.Machine

/-- READ-STATUS (R187). -/
def readStatusOwner (b : Block) (s : State) : State := respondWith b .ok (statusBytes s) s

/-- READ_STATUS (R187). -/
def execReadStatus (s : State) : Host.Outcome State Fault Refusal := .next (serve .readStatus readStatusOwner s)

/-- The site that a site operand names, if it is one of 0..15. -/
def Block.site (b : Block) : Option Site := if h : b.op 0 < 16 then some ⟨b.op 0, h⟩ else none

/-- READ-SITE (R113). -/
def readSiteOwner (b : Block) (s : State) : State :=
  match b.site with
  | none => respond b .siteRange s
  | some i => respondWith b .ok (siteBytes s i) s

/-- READ_SITE (R113). -/
def execReadSite (s : State) : Host.Outcome State Fault Refusal := .next (serve .readSite readSiteOwner s)

/-- The maximum count of READ-FAIL-LOG. -/
def Block.most (b : Block) : Nat := b.op 1

/-- The number of records READ-FAIL-LOG returns: the lesser of the maximum and the unread records (R114). -/
def unreadCount (most : Nat) (x : SiteRec) : Nat := min most (x.log.length - x.cursor)

/-- READ-FAIL-LOG (R114). -/
def readFailLogOwner (b : Block) (s : State) : State :=
  match b.site with
  | none => respond b .siteRange s
  | some i =>
    guarded b
      [(!decide (1 ≤ b.most ∧ b.most ≤ 32), .countRange), (decide (b.bufLength < 8 + 16 * b.most), .bufferRange)]
      (fun s =>
        let k := unreadCount b.most s.sites[i]
        respondWith b .ok (failLogBytes s i k b.most) (updSite i (fun x => { x with cursor := x.cursor + k }) s)) s

/-- READ_FAIL_LOG (R114). -/
def execReadFailLog (s : State) : Host.Outcome State Fault Refusal := .next (serve .readFailLog readFailLogOwner s)

/-- The read cursors of the named sites set back to 0 (R115). -/
def rewindLogs (mask : SiteMask) (s : State) : State :=
  { s with sites := tabulate 16 fun i => if inMask mask i then { s.sites[i] with cursor := 0 } else s.sites[i] }

/-- REWIND-LOG (R115). -/
def rewindLogOwner (b : Block) (s : State) : State :=
  guarded b [(b.opMask == 0, .siteRange)] (fun s => respond b .ok (rewindLogs b.opMask s)) s

/-- REWIND_LOG (R115). -/
def execRewindLog (s : State) : Host.Outcome State Fault Refusal := .next (serve .rewindLog rewindLogOwner s)

/-- READ-BAD-BLOCKS (R116). -/
def readBadBlocksOwner (b : Block) (s : State) : State :=
  match b.site with
  | none => respond b .siteRange s
  | some i => respondWith b .ok (badBlockBytes s i) s

/-- READ_BAD_BLOCKS (R116). -/
def execReadBadBlocks (s : State) : Host.Outcome State Fault Refusal := .next (serve .readBadBlocks readBadBlocksOwner s)

/-- READ-RESULT: the result record, or the empty record while a run is in progress (R76). -/
def readResultOwner (b : Block) (s : State) : State :=
  respondWith b .ok (resultBytes (if runActive s then none else s.run.result)) s

/-- READ_RESULT (R76). -/
def execReadResult (s : State) : Host.Outcome State Fault Refusal := .next (serve .readResult readResultOwner s)

/-- READ-PEERS (R135). -/
def readPeersOwner (b : Block) (s : State) : State := respondWith b .ok (peersBytes s) s

/-- READ_PEERS (R135). -/
def execReadPeers (s : State) : Host.Outcome State Fault Refusal := .next (serve .readPeers readPeersOwner s)

/-- The snapshot latch replaced. -/
def setLatch (x : Option Snapshot) (s : State) : State := { s with timers := { s.timers with latch := x } }

/-- SNAPSHOT: an EMPTY latch takes a record; a HELD latch keeps its own (R97). -/
def snapshotOwner (b : Block) (s : State) : State :=
  match s.timers.latch with
  | some _ => respond b .held s
  | none => respond b .ok (setLatch (some (snapshotOf s)) s)

/-- SNAPSHOT (R97). -/
def execSnapshot (s : State) : Host.Outcome State Fault Refusal := .next (serve .snapshot snapshotOwner s)

/-- READ-SNAPSHOT: the held record, which leaves the latch EMPTY, or a live one (R98). -/
def readSnapshotOwner (b : Block) (s : State) : State :=
  match s.timers.latch with
  | some n => respondWith b .ok (snapshotBytes 1 n) (setLatch none s)
  | none => respondWith b .ok (snapshotBytes 2 (snapshotOf s)) s

/-- READ_SNAPSHOT (R98). -/
def execReadSnapshot (s : State) : Host.Outcome State Fault Refusal := .next (serve .readSnapshot readSnapshotOwner s)

end Sys2Proof.Machine
end

