-- ==== Sys2Proof/Machine/RunCommands.lean ====
section
/-! DEFINITION. The urgent commands that act on a run and on the ALERT drive: PAUSE, RESUME, ABORT, RAISE-ALERT and CLEAR-ALERT. -/

namespace Sys2Proof.Machine

/-! ## PAUSE -/

/-- PAUSE's conditions, in order (R77). -/
def pauseChecks (s : State) : List (Bool × Response) :=
  [(s.run.seq == .idle, .notRunning),
   (s.run.ending.isSome, .runEnded),
   (s.cwc.outPause.isSome, .pausePending),
   (s.run.seq == .paused, .alreadyPaused)]

/-- A pause takes effect: the sequencer is PAUSING with its resume point recorded, and the supply awaited is given up (R77, R78). -/
def pauseTakesEffect (s : State) : State :=
  let s := recordResume { s with run := { s.run with seq := .pausing, heldPause := false } }
  if s.run.stage = .supply then giveUp s else s

/-- An accepted PAUSE: its block outstanding, the pause held while the resume guard runs, and otherwise in effect (R77, R81). -/
def acceptPause (b : Block) (s : State) : State :=
  let s := { s with cwc := { s.cwc with outPause := some b } }
  if s.run.guardRem ≠ 0 then { s with run := { s.run with heldPause := true } } else settle (pauseTakesEffect s)

/-- PAUSE at the Run Sequencer (R77). -/
def pauseOwner (b : Block) (s : State) : State := guarded b (pauseChecks s) (acceptPause b) s

/-- PAUSE (R77). -/
def execPause (s : State) : Host.Outcome State Fault Refusal := .next (serve .pause pauseOwner s)

/-! ## RESUME -/

/-- RESUME's refusals, in the order of the states found (R80). -/
def resumeChecks (s : State) : List (Bool × Response) :=
  [(s.run.seq == .idle, .notRunning),
   (s.run.ending.isSome, .runEnded),
   (s.run.seq == .running && !s.run.heldPause, .notPaused)]

/-- The resume guard loaded with 20 ms (R81). -/
def loadGuard (s : State) : State := { s with run := { s.run with guardRem := Config.resumeGuard } }

/-- A pause that has not come to rest is cancelled. A pass whose rail is being given back re-enters SUPPLY (R80, R150). -/
def cancelPausing (s : State) : State :=
  let stage : Stage :=
    if s.rail.givingUp then
      match s.run.stage with
      | .supply => .reenter true
      | .visits => .reenter false
      | x => x
    else s.run.stage
  { s with run := { s.run with seq := .running, resume := none, stage := stage } }

/-- A sync pass that was held during the pause exits the step at once (R70, R80). -/
def releaseSyncPass (s : State) : State :=
  if s.run.heldSyncPass then
    let s := { s with run := { s.run with heldSyncPass := false } }
    if s.run.stage = .sync then enterExit s else s
  else s

/-- A PAUSED run continues at its resume point (R80). -/
def leavePaused (s : State) : State := { s with run := { s.run with seq := .running, resume := none } }

/-- The effect of a RESUME on the state it finds (R80). -/
def resumeRun (s : State) : State :=
  match s.run.seq with
  | .running => finishPause .cancelled { s with run := { s.run with heldPause := false } }
  | .pausing => finishPause .cancelled (releaseSyncPass (cancelPausing s))
  | .paused => releaseSyncPass (leavePaused s)
  | .idle => s

/-- RESUME at the Run Sequencer (R80). -/
def resumeOwner (b : Block) (s : State) : State :=
  guarded b (resumeChecks s) (fun s => settle (respond b .ok (loadGuard (resumeRun s)))) s

/-- RESUME (R80). -/
def execResume (s : State) : Host.Outcome State Fault Refusal := .next (serve .resume resumeOwner s)

/-! ## ABORT -/

/-- ABORT's refusals (R82). -/
def abortChecks (s : State) : List (Bool × Response) :=
  [(s.run.seq == .idle, .notRunning), (s.cwc.outAbort.isSome, .runEnded)]

/-- ABORT at the Run Sequencer: its block outstanding, and the run ends ABORTED unless it is already ending (R82). -/
def abortOwner (b : Block) (s : State) : State :=
  guarded b (abortChecks s)
    (fun s => settle (endRun .aborted { s with cwc := { s.cwc with outAbort := some b } })) s

/-- ABORT (R82). -/
def execAbort (s : State) : Host.Outcome State Fault Refusal := .next (serve .abort abortOwner s)

/-! ## RAISE-ALERT and CLEAR-ALERT -/

/-- RAISE-ALERT at the Alert Monitor (R173). -/
def raiseAlertOwner (b : Block) (s : State) : State :=
  respond b .ok { s with alert := { s.alert with raised := true } }

/-- RAISE_ALERT (R173). -/
def execRaiseAlert (s : State) : Host.Outcome State Fault Refusal := .next (serve .raiseAlert raiseAlertOwner s)

/-- CLEAR-ALERT at the Alert Monitor (R174). -/
def clearAlertOwner (b : Block) (s : State) : State :=
  respond b .ok { s with alert := { s.alert with headFault := false, raised := false } }

/-- CLEAR_ALERT (R174). -/
def execClearAlert (s : State) : Host.Outcome State Fault Refusal := .next (serve .clearAlert clearAlertOwner s)

end Sys2Proof.Machine
end

