-- ==== Sys2Proof/Machine/Resets.lean ====
section
/-! DEFINITION. RAIL-FAIL's halt of the card (R175), and the resets: power-on, backplane and CARD-RESET (R2, R168, R188). -/

namespace Sys2Proof.Machine

/-- Steps 1 to 3 of R175: the card HALTED, the link OFF, the tally and the waiter list cleared, the rail state NONE. The needs go
with the waiter list (R136, log 22). -/
def haltBlocks (s : State) : State :=
  let s := linkOff { s with alert := { s.alert with halted := true } }
  let s := mapPeers (fun e => { e with held := 0, need := none }) s
  { s with rail := Rail.reset }

/-- The end of a run that a halt or a CARD-RESET cuts short: its end cause is the first one taken (R72, R74). -/
def cutCause (cause : EndCause) (s : State) : EndCause := s.run.ending.getD cause

/-- The card becomes HALTED (R175). -/
def haltCard (s : State) : State :=
  let s := haltBlocks s
  if runActive s then finishRunEnd (cutCause .halted s) (cutShort s) else s

/-- Power-on and backplane reset: every block at its reset values, the UAG unloaded (R40, R41), and HALTED at once when RAIL-FAIL is asserted (R2, R168). -/
def resetCard (straps : Straps) (lines : Lines) (s : State) : State :=
  let s := ((State.powerOn straps lines).withPending s.pending).withUag (unloadUag s).uag
  if lines.railFail then haltCard s else s

/-- POWER_ON_RESET (R2). -/
def execPowerOnReset (straps : Straps) (lines : Lines) (s : State) : Host.Outcome State Fault Refusal :=
  .next (resetCard straps lines s)

/-- BACKPLANE_RESET (R2). -/
def execBackplaneReset (straps : Straps) (lines : Lines) (s : State) : Host.Outcome State Fault Refusal :=
  .next (resetCard straps lines s)

/-! ## CARD-RESET -/

/-- A site record after CARD-RESET: the reset values, but TRIPPED is kept (R2). -/
def resetSite (x : SiteRec) : SiteRec :=
  { SiteRec.reset with state := if x.state = .tripped then .tripped else .vacant }

/-- Step 2 of R188: every block at its CARD-RESET values. The Plan Store, the result record and the levels of the two lines are
kept. -/
def resetBlocks (straps : Straps) (s : State) : State :=
  { s with
    run := { Run.reset with result := s.run.result }
    uag := (unloadUag s).uag
    hci := { Hci.reset with cable := s.hci.cable }
    sites := tabulate 16 fun i => resetSite s.sites[i]
    timers := TimerArray.reset
    link := Link.reset straps
    peers := peersReset straps
    rail := Rail.reset
    sync := SyncUnit.reset
    alert := { AlertMonitor.reset { alert := s.alert.level, railFail := s.alert.railFail } with halted := s.alert.halted } }

/-- Step 1 of R188: the run in progress ends, with its result record in the result buffer. -/
def endRunForReset (s : State) : State :=
  if runActive s then writeRunResult (closeRun (cutCause .cardReset s) (cutShort s)) else s

/-- Steps 3 and 4 of R188: the outstanding blocks and then the waiting blocks completed. -/
def completeAll (cause : EndCause) (s : State) : State :=
  let s := finishBlocks cause s
  let urgent := s.cwc.urgent
  let plan := s.cwc.plan
  let s := respondAll .cardReset plan (respondAll .cardReset urgent s)
  { s with cwc := { s.cwc with urgent := [], plan := [] } }

/-- CARD-RESET served (R188). -/
def cardResetOwner (straps : Straps) (b : Block) (s : State) : State :=
  respond b .ok (completeAll (cutCause .cardReset s) (resetBlocks straps (endRunForReset s)))

/-- CARD_RESET (R188). -/
def execCardReset (straps : Straps) (s : State) : Host.Outcome State Fault Refusal :=
  .next (serve .cardReset (cardResetOwner straps) s)

end Sys2Proof.Machine
end

