-- ==== Sys2Proof/Machine/PeuMessages.lean ====
section
/-! DEFINITION. The replies and the messages of the pin electronics unit: CONTACT, ACCEPT, RESULT, READY and the two ALARMs (R3, R11 to R19). -/

namespace Sys2Proof.Machine

/-- The start sequence after the CONTACT reply: NO SITES, or the group joined and the first step entered (R62, steps 3 to 5). A run
that is ending goes no further. -/
def continueStart (s : State) : State :=
  if s.run.ending.isSome then s
  else if activeCount s = 0 then endRun .noSites s
  else
    let s := match s.run.group with
      | some g => joinGroup g s
      | none => s
    { s with run := { s.run with stage := .enter s.run.first } }

/-- CONTACT: the awaited reply is applied to the sites and the start sequence goes on; any other is a stray (R3, R10). -/
def takeContact (mask : SiteMask) (s : State) : State :=
  if awaits .contact s then settle (continueStart (applyContact mask (hciIdle s))) else addStrays 1 s

/-- CONTACT (R3). -/
def execContact (mask : SiteMask) (s : State) : Host.Outcome State Fault Refusal := .next (takeContact mask s)

/-- What an awaited ACCEPT does besides making the HCI IDLE: an OPERATE's sites are started (R12); a DROP or an ABANDON does nothing
more (R14, R15). -/
def acceptEffect (r : Request) (s : State) : State :=
  match r with
  | .operate _ _ _ mask _ => unitAccepted (startTimers mask s)
  | .contactCheck | .compare .. | .drop _ | .abandon => s

/-- ACCEPT: the awaited reply, or a stray (R10, R12). -/
def takeAccept (s : State) : State :=
  match s.hci.outstanding with
  | some o => if o.request.kind.awaits = .accept then settle (acceptEffect o.request (hciIdle s)) else addStrays 1 s
  | none => addStrays 1 s

/-- ACCEPT (R12). -/
def execAccept (s : State) : Host.Outcome State Fault Refusal := .next (takeAccept s)

/-- RESULT: the awaited reply's entries handed on and its unit resolved, or a stray (R10, R13). -/
def takeResult (entries : List ResultEntry) (s : State) : State :=
  match s.hci.outstanding with
  | some { request := .compare _ _ _ mask _, .. } =>
    settle (unitResolved (resultEntries mask [] entries (hciIdle s)))
  | _ => addStrays 1 s

/-- RESULT (R13). -/
def execResult (entries : List ResultEntry) (s : State) : Host.Outcome State Fault Refusal := .next (takeResult entries s)

/-- READY: `elapsed` ticks after the event before it, its sites are stopped and judged, or counted as strays (R16, log 4). -/
def takeReady (mask : SiteMask) (elapsed : Nat) (s : State) : State := settle (readySites mask (elapse elapsed s))

/-- READY (R16). -/
def execReady (mask : SiteMask) (elapsed : Nat) (s : State) : Host.Outcome State Fault Refusal :=
  .next (takeReady mask elapsed s)

/-- The unit in flight names a site. -/
def inUnit (i : Site) (s : State) : Bool :=
  match s.run.inflight with
  | some u => inMask u.mask i
  | none => false

/-- ALARM SITE-OVERCURRENT: the site trips, no DROP is sent for it any more, and a site of the unit in flight leaves it with an ALARM
record (R17). -/
def takeOvercurrent (i : Site) (s : State) : State :=
  if s.sites[i].state = .tripped then s
  else
    let t := cancelDrop i (tripSite i s)
    settle (if inUnit i s then leaveUnit i (recordFailure i .alarm 0 none t) else t)

/-- ALARM_SITE_OVERCURRENT (R17). -/
def execAlarmSiteOvercurrent (site : Site) (s : State) : Host.Outcome State Fault Refusal := .next (takeOvercurrent site s)

/-- ALARM HEAD-FAULT: a run in progress ends HEAD FAULT, and then the head-fault latch is set (R18, R169). -/
def takeHeadFault (s : State) : State :=
  let s := endRun .headFault s
  settle { s with alert := { s.alert with headFault := true } }

/-- ALARM_HEAD_FAULT (R18). -/
def execAlarmHeadFault (s : State) : Host.Outcome State Fault Refusal := .next (takeHeadFault s)

end Sys2Proof.Machine
end

