-- ==== Sys2Proof/Machine/Clocks.lean ====
section
/-! DEFINITION. The ends of the card's running times (R20, R66, R69, R81, R91, R126, R163). Each is taken when the remaining time has
passed; every other clock runs on by that time (log 3). A clock that is not running cannot end: nothing changes then (log 1). -/

namespace Sys2Proof.Machine

/-- REPLY_DEADLINE: the request is given up, the error record filled if empty, what the HCI holds is sent, and the run ends HEAD LINK
unless it is ending (R10, R20, log 12). -/
def passDeadline (s : State) : State :=
  match s.hci.outstanding with
  | none => s
  | some o => settle (endRun .headLink (hciPump (hciIdle (fillError o.request.kind (elapse o.deadline s)))))

/-- REPLY_DEADLINE (R20). -/
def execReplyDeadline (s : State) : Host.Outcome State Fault Refusal := .next (passDeadline s)

/-- A site put into the pending-drop mask (R14). -/
def addPendingDrop (i : Site) (s : State) : State :=
  { s with hci := { s.hci with pendingDrop := addSite s.hci.pendingDrop i } }

/-- The expiry of a site's timer at its high limit, in the order of R93: stopped, failed SLOW, retired under RETIRE, and handed to the
pending-drop mask (R91, R92). -/
def expireSite (i : Site) (t : TimedStep) (s : State) : State :=
  addPendingDrop i (busyFailure i .slow t.limits.high t (stopTimerAt i t.limits.high s))

/-- HIGH_LIMIT_EXPIRY (R91). -/
def passHighLimit (i : Site) (s : State) : State :=
  match s.timers.timed with
  | none => s
  | some t => if s.timers.running[i] then settle (expireSite i t (elapse (t.limits.high - s.timers.values[i]) s)) else s

/-- HIGH_LIMIT_EXPIRY (R91). -/
def execHighLimitExpiry (site : Site) (s : State) : Host.Outcome State Fault Refusal := .next (passHighLimit site s)

/-- A run that is RUNNING and at a given stage; its remaining times count, though it be ending (R59). -/
def countingAt (stage : Stage) (s : State) : Bool := s.run.seq == .running && s.run.stage == stage

/-- A run that is RUNNING, not ending, and at a given stage. -/
def runningAt (stage : Stage) (s : State) : Bool :=
  s.run.seq == .running && s.run.ending.isNone && s.run.stage == stage

/-- DWELL_EXPIRY: the step exits (R69). -/
def passDwell (s : State) : State :=
  if runningAt .dwell s then
    let s := elapse s.run.dwellRem s
    settle (enterExit { s with run := { s.run with dwellRem := 0 } })
  else s

/-- DWELL_EXPIRY (R69). -/
def execDwellExpiry (s : State) : Host.Outcome State Fault Refusal := .next (passDwell s)

/-- The timeout action of the current SYNC step (R33). -/
def timeoutAction (s : State) : TimeoutAction :=
  match s.run.record with
  | some (.sync _ a) => a
  | _ => .proceed

/-- A SYNC step decided by its timeout: it exits, or the run ends SYNC TIMEOUT (R163). A step of a run that is ending is not decided any
more (R72, log 15). -/
def decideSync (s : State) : State :=
  if s.run.ending.isSome then s
  else match timeoutAction s with
    | .proceed => enterExit s
    | .endRun => endRun .syncTimeout s

/-- SYNC_TIMEOUT: the laggard mask is formed, and then the step is decided (R70, R163). -/
def passSyncTimeout (s : State) : State :=
  match s.run.syncRem with
  | none => s
  | some r =>
    if countingAt .sync s then
      let s := elapse r s
      settle (decideSync (syncTimedOut { s with run := { s.run with syncRem := some 0 } }))
    else s

/-- SYNC_TIMEOUT (R163). -/
def execSyncTimeout (s : State) : Host.Outcome State Fault Refusal := .next (passSyncTimeout s)

/-- The pass in SUPPLY still waits for its claim. In an ending run the wait is over once the claim has been carried (R66). A re-entry that
waits for the give-up with no ACTIVE member awaits no claim, so that its time counts on and the expiry does nothing: the model's choice
(log 37). -/
def supplyWaits (s : State) : Bool :=
  countingAt .supply s && (s.run.ending.isNone || s.rail.seeking || s.rail.kept.isSome)

/-- SUPPLY_WAIT_EXPIRY: the wait is given up, and the run ends SUPPLY WAIT TIMEOUT unless it is ending (R66, R72). -/
def passSupplyWait (s : State) : State :=
  match s.run.supplyRem with
  | none => s
  | some r =>
    if supplyWaits s then
      let s := elapse r s
      settle (endRun .supplyWaitTimeout (giveUp { s with run := { s.run with supplyRem := some 0 } }))
    else s

/-- SUPPLY_WAIT_EXPIRY (R66). -/
def execSupplyWaitExpiry (s : State) : Host.Outcome State Fault Refusal := .next (passSupplyWait s)

/-- RESUME_GUARD_EXPIRY: a held PAUSE takes effect if the run is RUNNING and not ending (R81). -/
def passResumeGuard (s : State) : State :=
  if s.run.guardRem = 0 ∧ s.run.heldPause = false then s
  else
    let s := elapse s.run.guardRem s
    let s := { s with run := { s.run with guardRem := 0 } }
    if s.run.heldPause ∧ s.run.seq = .running ∧ s.run.ending = none then settle (pauseTakesEffect s) else s

/-- RESUME_GUARD_EXPIRY (R81). -/
def execResumeGuardExpiry (s : State) : Host.Outcome State Fault Refusal := .next (passResumeGuard s)

/-- ROLL_WINDOW_EXPIRY: the link becomes UP (R126). -/
def passRollWindow (s : State) : State :=
  match s.link.rollWindow with
  | none => s
  | some r =>
    let s := elapse r s
    settle { s with link := { s.link with rollWindow := none, st := if s.link.st = .rolling then .up else s.link.st } }

/-- ROLL_WINDOW_EXPIRY (R126). -/
def execRollWindowExpiry (s : State) : Host.Outcome State Fault Refusal := .next (passRollWindow s)

end Sys2Proof.Machine
end

