-- ==== Sys2Proof/Machine/Frames.lean ====
section
/-! DEFINITION. Frame starts, lost and void attempts, and the taking of carried frames (R119 to R131, R141 to R153, R158 to R165). -/

namespace Sys2Proof.Machine

/-- FRAME_START: the station begins to send its lowest frame, the payload fixed now (R119, R121). -/
def startFrame (s : State) : State :=
  match linkSends s, s.link.attempt, lowestFrame s with
  | true, none, some f => { s with link := { s.link with attempt := some { frame := f, replaced := false } } }
  | _, _, _ => s

/-- FRAME_START (R119). -/
def execFrameStart (s : State) : Host.Outcome State Fault Refusal := .next (startFrame s)

/-- The attempt on the line lost: the frame is kept, and its owner told (R122). -/
def loseAttempt (s : State) : State :=
  match s.link.attempt with
  | none => s
  | some a => attemptFailed a.frame.kind { s with link := { s.link with attempt := none } }

/-- ARBITRATION_LOST (R122). -/
def execArbitrationLost (s : State) : Host.Outcome State Fault Refusal := .next (settle (loseAttempt s))

/-- The attempt on the line drew an objection: the count rises, and at 8 the link goes MUTE (R122, R123). A void frame of another
station changes nothing (R120); which frames this card itself makes void is `objects`. -/
def voidAttempt (s : State) : State :=
  match s.link.attempt with
  | none => s
  | some a =>
    let n := s.link.objections + 1
    let s := { s with link := { s.link with attempt := none, objections := min n Config.objectionLimit } }
    if Config.objectionLimit ≤ n then goMute s else attemptFailed a.frame.kind s

/-- FRAME_VOID (R120). -/
def execFrameVoid (s : State) : Host.Outcome State Fault Refusal := .next (settle (voidAttempt s))

/-! ## A carried frame -/

/-- The budget that a frame carries: ROLL and STATE only (R133). -/
def Frame.budget? : Frame → Option Nat
  | .state _ b => some b
  | .roll b => some b
  | _ => none

/-- A budget taken from a ROLL or a STATE: the sender's entry and the effective budget, reported when lowered (R133, R152). -/
def takeBudget (x : Station) (b : Nat) (s : State) : State :=
  let c := clampBudget b
  let s := updPeer x (fun e => { e with budget := some c }) s
  if c < s.link.effBudget then budgetLowered { s with link := { s.link with effBudget := c } } else s

/-- Step 1 of R124: presence, budget and effective budget. -/
def takePresence (x : Station) (f : Frame) (s : State) : State :=
  let s := updPeer x (fun e => { e with present := true }) s
  match f.budget? with
  | some b => takeBudget x b s
  | none => s

/-- A station taken out of the waiter list, with its need (R143). -/
def dropWaiter (x : Station) (s : State) : State :=
  updPeer x (fun e => { e with need := none })
    { s with rail := { s.rail with waiters := s.rail.waiters.filter fun y => y != x } }

/-- A station put at the end of the waiter list unless it is listed, with its need (R143). -/
def listWaiter (x : Station) (n : Nat) (s : State) : State :=
  updPeer x (fun e => { e with need := some n })
    { s with rail := { s.rail with
        waiters := if s.rail.waiters.contains x then s.rail.waiters else s.rail.waiters ++ [x] } }

/-- A frame applied to the sender's entry and to the waiter list (R129, R131, R142, R143, R158). -/
def applyFrame (x : Station) (f : Frame) (s : State) : State :=
  match f with
  | .release u => updPeer x (fun e => { e with held := e.held - u }) s
  | .withdraw => dropWaiter x s
  | .leave _ => updPeer x (fun e => { e with group := none, lastMark := none }) s
  | .state h _ => updPeer x (fun e => { e with held := h }) s
  | .roll _ => updPeer x (fun e => { e with held := 0, group := none, lastMark := none }) (dropWaiter x s)
  | .mark g k => updPeer x (fun e => { e with group := some g, lastMark := some k }) s
  | .wait n => listWaiter x n s
  | .claim u _ => updPeer x (fun e => { e with held := satAdd 1023 e.held u }) (dropWaiter x s)

/-- The kinds that change the tally or the waiter list, after which a seeking station evaluates its claim rule (R145). -/
def FrameKind.isRail : FrameKind → Bool
  | .release | .withdraw | .state | .roll | .wait | .claim => true
  | .leave | .mark => false

/-- The kinds after which a WAITING member evaluates its passing condition (R161). -/
def FrameKind.isSync : FrameKind → Bool
  | .leave | .roll | .mark => true
  | .release | .withdraw | .state | .wait | .claim => false

/-- Step 3 of R124: the frame applied, and the evaluations that another station's rail frame and any sync frame bring about. -/
def takeEntry (x : Station) (f : Frame) (s : State) : State :=
  let s := applyFrame x f s
  let s := if f.kind.isRail && x != s.link.own then evaluateClaim s else s
  if f.kind.isSync then evaluateSync s else s

/-- The roll window opened by the carrying of the own ROLL (R126). -/
def openRollWindow (f : Frame) (s : State) : State :=
  if f.kind = .roll ∧ s.link.st = .rolling then { s with link := { s.link with rollWindow := some Config.rollWindow } } else s

/-- Step 4 of R124: the owner of an own frame is told that it was carried. -/
def ownCarried (a : Attempt) (f : Frame) (s : State) : State :=
  railCarried f.kind (ownMarkCarried f (openRollWindow f (attemptCarried a s)))

/-- Step 5 of R124: the answers to a ROLL of another station: STATE, the member's MARK, and a WAITING station's WAIT (R130). A link that
does not send discards them. -/
def answerRoll (s : State) : State :=
  let s := handFrame (.state 0 0) s
  let s := match s.sync.ownGroup with
    | some g => handFrame (.mark g s.sync.markCount) s
    | none => s
  match s.rail.st, s.peers[s.link.own].need with
  | .waiting, some n => handFrame (.wait n) s
  | _, _ => s

/-- The attempt of this station that a carried frame is, if it is one (R122, R125). -/
def ownAttempt (x : Station) (f : Frame) (s : State) : Option Attempt :=
  match s.link.attempt with
  | some a => if x = s.link.own ∧ a.frame = f then some a else none
  | none => none

/-- Steps 1 to 3 of R124. A frame with the own number that this station did not send makes it MUTE (R125). -/
def takeSteps (x : Station) (f : Frame) (sent : Bool) (s : State) : State :=
  let s := takePresence x f s
  let s := if x = s.link.own ∧ sent = false then goMute s else s
  takeEntry x f s

/-- A carried frame taken (R124). An own attempt on the line with another frame was lost first (log 16). -/
def takeFrame (x : Station) (f : Frame) (s : State) : State :=
  if linkHears s then
    match ownAttempt x f s with
    | some a => ownCarried a f (takeSteps x f true s)
    | none =>
      let s := takeSteps x f false (loseAttempt s)
      if f.kind = .roll ∧ x ≠ s.link.own then answerRoll s else s
  else s

/-- A carried frame taken and the card's own actions run to rest. A payload outside its ranges is objected to (`objects`) and not taken
(R120, log 17). -/
def carried (x : Station) (f : Option Frame) (s : State) : State :=
  match f with
  | some f => settle (takeFrame x f s)
  | none => s

/-- RELEASE (R142). -/
def execRelease (station : Station) (units : BitVec 16) (s : State) : Host.Outcome State Fault Refusal :=
  .next (carried station (releaseFrame units) s)

/-- WITHDRAW (R143). -/
def execWithdraw (station : Station) (s : State) : Host.Outcome State Fault Refusal :=
  .next (carried station (some .withdraw) s)

/-- LEAVE (R158). -/
def execLeave (station : Station) (group : Byte) (s : State) : Host.Outcome State Fault Refusal :=
  .next (carried station (leaveFrame group) s)

/-- STATE (R131). -/
def execState (station : Station) (held budget : BitVec 12) (s : State) : Host.Outcome State Fault Refusal :=
  .next (carried station (stateFrame held budget) s)

/-- ROLL (R129). -/
def execRoll (station : Station) (budget : BitVec 16) (s : State) : Host.Outcome State Fault Refusal :=
  .next (carried station (rollFrame budget) s)

/-- MARK (R158). -/
def execMark (station : Station) (group mark : Byte) (s : State) : Host.Outcome State Fault Refusal :=
  .next (carried station (markFrame group mark) s)

/-- WAIT (R143). -/
def execWait (station : Station) (need : BitVec 16) (s : State) : Host.Outcome State Fault Refusal :=
  .next (carried station (waitFrame need) s)

/-- CLAIM (R142). -/
def execClaim (station : Station) (units : BitVec 16) (step : Byte) (s : State) : Host.Outcome State Fault Refusal :=
  .next (carried station (claimFrame units step) s)

end Sys2Proof.Machine
end

