-- ==== Sys2Proof/Machine/AlertLines.lean ====
section
/-! DEFINITION. The ALERT line and the RAIL-FAIL input (R171, R172, R175). -/

namespace Sys2Proof.Machine

/-- What a rise of ALERT does on a NORMAL card: under SHUTDOWN a run ends STOPPED (R171), under IGNORE the rise is counted (R172). -/
def riseEffect (s : State) : State :=
  match s.store.stopOption with
  | .shutdown => settle (endRun .stopped s)
  | .ignore => { s with alert := { s.alert with count := satAdd 255 s.alert.count 1 } }

/-- ALERT_RISE: the level goes from released to asserted (R167). A HALTED card does not act on it (R172). -/
def alertRises (s : State) : State :=
  if s.alert.level then s
  else
    let s := { s with alert := { s.alert with level := true } }
    if s.alert.halted then s else riseEffect s

/-- ALERT_RISE (R171). -/
def execAlertRise (s : State) : Host.Outcome State Fault Refusal := .next (alertRises s)

/-- ALERT_FALL: the level is released; it cannot be while this card drives the line (R167, R171). -/
def alertFalls (s : State) : State :=
  if alertDrive s.alert then s else { s with alert := { s.alert with level := false } }

/-- ALERT_FALL (R171). -/
def execAlertFall (s : State) : Host.Outcome State Fault Refusal := .next (alertFalls s)

/-- RAIL_FAIL: a NORMAL card becomes HALTED; on a HALTED one only the level shows it (R175). -/
def railFails (s : State) : State :=
  let s := { s with alert := { s.alert with railFail := true } }
  if s.alert.halted then s else haltCard s

/-- RAIL_FAIL (R175). -/
def execRailFail (s : State) : Host.Outcome State Fault Refusal := .next (railFails s)

/-- RAIL_FAIL_RELEASE: the level is released, and a HALTED card stays HALTED (R175). -/
def execRailFailRelease (s : State) : Host.Outcome State Fault Refusal :=
  .next { s with alert := { s.alert with railFail := false } }

end Sys2Proof.Machine
end

