-- ==== Sys2Proof/Machine/Dispatch.lean ====
section
/-! DEFINITION. What each command does: one direct call of its meaning. -/

namespace Sys2Proof.Machine

def exec (i : Instr) (s : State) : Host.Outcome State Fault Refusal :=
  match i with
  | .powerOnReset straps lines => Sys2Proof.Machine.execPowerOnReset straps lines s
  | .backplaneReset straps lines => Sys2Proof.Machine.execBackplaneReset straps lines s
  | .postFirstByte value => Sys2Proof.Machine.execPostFirstByte value s
  | .post value => Sys2Proof.Machine.execPost value s
  | .attentionFirstByte value => Sys2Proof.Machine.execAttentionFirstByte value s
  | .attentionAcknowledge value => Sys2Proof.Machine.execAttentionAcknowledge value s
  | .windowWrite offset value => Sys2Proof.Machine.execWindowWrite offset value s
  | .setProfile => Sys2Proof.Machine.execSetProfile s
  | .defineStep => Sys2Proof.Machine.execDefineStep s
  | .deleteSteps => Sys2Proof.Machine.execDeleteSteps s
  | .run => Sys2Proof.Machine.execRun s
  | .setStopOption => Sys2Proof.Machine.execSetStopOption s
  | .siteRestore => Sys2Proof.Machine.execSiteRestore s
  | .clearResults => Sys2Proof.Machine.execClearResults s
  | .readStatus => Sys2Proof.Machine.execReadStatus s
  | .readSite => Sys2Proof.Machine.execReadSite s
  | .readFailLog => Sys2Proof.Machine.execReadFailLog s
  | .rewindLog => Sys2Proof.Machine.execRewindLog s
  | .readBadBlocks => Sys2Proof.Machine.execReadBadBlocks s
  | .readResult => Sys2Proof.Machine.execReadResult s
  | .readPeers => Sys2Proof.Machine.execReadPeers s
  | .snapshot => Sys2Proof.Machine.execSnapshot s
  | .readSnapshot => Sys2Proof.Machine.execReadSnapshot s
  | .pause => Sys2Proof.Machine.execPause s
  | .resume => Sys2Proof.Machine.execResume s
  | .abort => Sys2Proof.Machine.execAbort s
  | .raiseAlert => Sys2Proof.Machine.execRaiseAlert s
  | .clearAlert => Sys2Proof.Machine.execClearAlert s
  | .cardReset straps => Sys2Proof.Machine.execCardReset straps s
  | .contact mask => Sys2Proof.Machine.execContact mask s
  | .accept => Sys2Proof.Machine.execAccept s
  | .result entries => Sys2Proof.Machine.execResult entries s
  | .ready mask elapsed => Sys2Proof.Machine.execReady mask elapsed s
  | .alarmSiteOvercurrent site => Sys2Proof.Machine.execAlarmSiteOvercurrent site s
  | .alarmHeadFault => Sys2Proof.Machine.execAlarmHeadFault s
  | .replyDeadline => Sys2Proof.Machine.execReplyDeadline s
  | .highLimitExpiry site => Sys2Proof.Machine.execHighLimitExpiry site s
  | .dwellExpiry => Sys2Proof.Machine.execDwellExpiry s
  | .syncTimeout => Sys2Proof.Machine.execSyncTimeout s
  | .supplyWaitExpiry => Sys2Proof.Machine.execSupplyWaitExpiry s
  | .resumeGuardExpiry => Sys2Proof.Machine.execResumeGuardExpiry s
  | .rollWindowExpiry => Sys2Proof.Machine.execRollWindowExpiry s
  | .frameStart => Sys2Proof.Machine.execFrameStart s
  | .arbitrationLost => Sys2Proof.Machine.execArbitrationLost s
  | .frameVoid => Sys2Proof.Machine.execFrameVoid s
  | .release station units => Sys2Proof.Machine.execRelease station units s
  | .withdraw station => Sys2Proof.Machine.execWithdraw station s
  | .leave station group => Sys2Proof.Machine.execLeave station group s
  | .state station held budget => Sys2Proof.Machine.execState station held budget s
  | .roll station budget => Sys2Proof.Machine.execRoll station budget s
  | .mark station group mark => Sys2Proof.Machine.execMark station group mark s
  | .wait station need => Sys2Proof.Machine.execWait station need s
  | .claim station units step => Sys2Proof.Machine.execClaim station units step s
  | .alertRise => Sys2Proof.Machine.execAlertRise s
  | .alertFall => Sys2Proof.Machine.execAlertFall s
  | .railFail => Sys2Proof.Machine.execRailFail s
  | .railFailRelease => Sys2Proof.Machine.execRailFailRelease s

end Sys2Proof.Machine
end

