-- ==== Sys2Proof/Machine/Step.lean ====
section
/-! DEFINITION. One step: the command at the front of the queue is taken; on an empty queue one tick of 10 µs passes (log 2). -/

namespace Sys2Proof.Machine

/-- One step of the card. -/
def step (s : State) : Host.Outcome State Fault Refusal :=
  match s.pending with
  | [] => .next (elapse 1 s)
  | c :: rest => exec c (s.withPending rest)

/-- `s` with the command that a table word spells put at the front of its queue; no row of the table gives bits. -/
def State.withFetchWord (s : State) (nbits w : Nat) : State :=
  match decodeTableWord nbits w with
  | some c => s.withPending (c :: s.pending)
  | none => s

end Sys2Proof.Machine
end

