-- ==== Sys2Proof/WellFormed.lean ====
section
/-! DEFINITION. Which commands can reach the card at all: the operand ranges that the rules give. -/

namespace Sys2Proof

/-- The operand ranges. A carried frame's payload lies in the ranges of R118 (one outside them draws an objection, R120);
a RESULT lists at most 16 entries (R13); a control-bus write lies in the window (R177). -/
def Instr.wellFormed : Instr → Bool
  | .windowWrite offset _ => decide (offset < 0x1000)
  | .result entries => decide (entries.length ≤ 16)
  | .release _ units => decide (1 ≤ units.toNat ∧ units.toNat ≤ 1023)
  | .leave _ group => decide (group.toNat ≤ 3)
  | .state _ held budget => decide (held.toNat ≤ 1023 ∧ budget.toNat ≤ 1023)
  | .roll _ budget => decide (budget.toNat ≤ 1023)
  | .mark _ group m => decide (group.toNat ≤ 3 ∧ m.toNat ≤ 128)
  | .wait _ need => decide (1 ≤ need.toNat ∧ need.toNat ≤ 1023)
  | .claim _ units step => decide (1 ≤ units.toNat ∧ units.toNat ≤ 1023 ∧ step.toNat ≤ 127)
  | .powerOnReset _ _ | .backplaneReset _ _ | .postFirstByte _ | .post _ | .attentionFirstByte _
  | .attentionAcknowledge _ | .setProfile | .defineStep | .deleteSteps | .run | .setStopOption | .siteRestore
  | .clearResults | .readStatus | .readSite | .readFailLog | .rewindLog | .readBadBlocks | .readResult | .readPeers
  | .snapshot | .readSnapshot | .pause | .resume | .abort | .raiseAlert | .clearAlert | .cardReset _ | .contact _
  | .accept | .ready _ _ | .alarmSiteOvercurrent _ | .alarmHeadFault | .replyDeadline | .highLimitExpiry _
  | .dwellExpiry | .syncTimeout | .supplyWaitExpiry | .resumeGuardExpiry | .rollWindowExpiry | .frameStart
  | .arbitrationLost | .frameVoid | .withdraw _ | .alertRise | .alertFall | .railFail | .railFailRelease => true

end Sys2Proof
end

