-- ==== Sys2Proof/Safety.lean ====
section
/-! DEFINITION. The words that the statements about the card are written in: the serving of a command, and the invariants of the state. -/

namespace Sys2Proof.Machine

/-! ## Serving -/

/-- The event by which the CWC serves a command; CARD-RESET reads the straps. -/
def Cmd.event (straps : Straps) : Cmd → Instr
  | .setProfile => .setProfile
  | .defineStep => .defineStep
  | .deleteSteps => .deleteSteps
  | .run => .run
  | .setStopOption => .setStopOption
  | .siteRestore => .siteRestore
  | .clearResults => .clearResults
  | .readStatus => .readStatus
  | .readSite => .readSite
  | .readFailLog => .readFailLog
  | .rewindLog => .rewindLog
  | .readBadBlocks => .readBadBlocks
  | .readResult => .readResult
  | .readPeers => .readPeers
  | .snapshot => .snapshot
  | .readSnapshot => .readSnapshot
  | .pause => .pause
  | .resume => .resume
  | .abort => .abort
  | .raiseAlert => .raiseAlert
  | .clearAlert => .clearAlert
  | .cardReset => .cardReset straps

/-- The next block that the CWC takes is `b`, of command `c`; `s0` is the card with `b` out of its queue (R180). -/
def Serving (c : Cmd) (b : Block) (s s0 : State) : Prop :=
  takeBlock s = some (b, s0) ∧ cmdOfCode b.code = some c

/-- The block being served passes the window checks of R181, so its owner decides. -/
def Served (c : Cmd) (b : Block) (s s0 : State) : Prop := Serving c b s s0 ∧ windowChecks c b s0 = none

/-- The HCI is IDLE and has nothing to send (R10). -/
def HciQuiet (s : State) : Prop :=
  s.hci.outstanding = none ∧ s.hci.held = none ∧ s.hci.pendingDrop = 0

/-- The ABANDON of an ordinary teardown has just gone out: it awaits its ACCEPT within 2 ms, no busy flag is set and the
pending-drop mask is empty (R15). -/
def AbandonSent (t : State) : Prop :=
  t.hci.outstanding = some { request := .abandon, deadline := Config.acceptDeadline }
  ∧ t.hci.pendingDrop = 0 ∧ (∀ i : Site, t.sites[i].busy = false ∧ t.timers.running[i] = false)

/-- A DEFINE-STEP may write its entry now: the index names an entry, and a PAUSED run has not reached it (R35, rows 1 to 3). -/
def StepPlace (b : Block) (s : State) : Prop :=
  b.op 0 ≤ 127 ∧ (s.run.seq = .idle ∨ s.run.seq = .paused ∧ ∃ k, s.run.current = some k ∧ k < b.op 0)

/-- The operand lengths of section 12.4 for a kind code and a limits-present byte. -/
def stepLengths (kind flag : Nat) : List Nat :=
  match kind with
  | 1 => if flag = 0 then [19] else if flag = 1 then [25] else [19, 25]
  | 2 => if flag = 0 then [21] else if flag = 1 then [27] else [21, 27]
  | 3 => [21]
  | 4 => [5]
  | 5 => [6]
  | _ => []

/-- Rows 5 to 15 of R35 by the bytes of the operand (section 12.4) and the figures of the profile. -/
def stepRefusals (b : Block) (pr : Profile) : List (Bool × Response) :=
  let kind := b.op 1
  let g := b.op 3
  let space := if g = 1 then pr.c + pr.b + pr.s else if g = 2 then pr.c + pr.b else if g = 3 then pr.c else 0
  let base := 16777216 * b.op 4 + 65536 * b.op 5 + 256 * b.op 6 + b.op 7
  let count := 65536 * b.op 8 + 256 * b.op 9 + b.op 10
  let stride := 256 * b.op 11 + b.op 12
  let width := if b.op 14 = 0 then space else b.op 14
  let repeats := 256 * b.op 15 + b.op 16
  let bin := if kind = 1 then b.op 17 else b.op 19
  let l := if kind = 1 then 19 else 21
  let low := 65536 * b.op l + 256 * b.op (l + 1) + b.op (l + 2)
  let high := 65536 * b.op (l + 3) + 256 * b.op (l + 4) + b.op (l + 5)
  [(decide (kind = 0 ∨ 5 < kind), .kindUnknown),
   (!(stepLengths kind (b.op 2)).contains b.opLength, .operandLength),
   (decide ((kind ≤ 3 ∧ g ≠ 4 ∧ 1 < b.op 13) ∨ (kind = 1 ∧ (1 < b.op 18 ∨ 1 < b.op 2))
      ∨ (kind = 2 ∧ (3 < b.op 17 ∨ 1 < b.op 20 ∨ 1 < b.op 2)) ∨ (kind = 3 ∧ (3 < b.op 17 ∨ 1 < b.op 20))
      ∨ (kind = 5 ∧ 1 < b.op 5)), .kindUnknown),
   (decide ((kind = 1 ∧ ¬ (2 ≤ g ∧ g ≤ 4)) ∨ (kind = 2 ∧ ¬ (1 ≤ g ∧ g ≤ 2)) ∨ (kind = 3 ∧ ¬ (1 ≤ g ∧ g ≤ 3))), .granuleNotAllowed),
   (decide (kind ≤ 3 ∧ g ≠ 4 ∧ space < b.op 14), .wrapRange),
   (decide (kind ≤ 3 ∧ 2 ^ space ≤ base), .baseRange),
   (decide ((kind ≤ 3 ∧ (count = 0 ∨ 65536 < count)) ∨ (kind = 4 ∧ 256 * b.op 3 + b.op 4 = 0)), .countRange),
   (decide (kind ≤ 3 ∧ g ≠ 4 ∧ (stride = 0 ∨ 4095 < stride ∨ stride % 2 ^ width = 0)), .strideRange),
   (decide (kind ≤ 3 ∧ (repeats = 0 ∨ 256 < repeats)), .repeatRange),
   (decide (kind ≤ 2 ∧ b.op 2 = 1 ∧ high ≤ low), .limitOrder),
   (decide (kind ≤ 3 ∧ (bin = 0 ∨ 15 < bin)), .binRange)]

/-- The blocks that the CWC holds for later completion: those outstanding in the order of R188, then the two queues. -/
def heldBlocks (c : Cwc) : List Block :=
  c.outRun.toList ++ c.outAbort.toList ++ c.outPause.toList ++ c.urgent ++ c.plan

/-- The attention count after some blocks have been completed (R185). -/
def noticed (count : Nat) (done : List Block) : Nat :=
  let n := (done.filter fun x => x.notify != 0).length
  if n = 0 then count else min 65535 (count + n)

/-- The result record stands in the result buffer that RUN's block names, where no completed block overlaps it (R75, R184). -/
def ResultWritten (p : Block) (r : Option ResultRec) (done : List Block) (t : State) : Prop :=
  0x100 ≤ p.bufOffset → p.bufOffset + 56 ≤ 0x1000 →
    (∀ x ∈ done, x.offset + 64 ≤ p.bufOffset ∨ p.bufOffset + 56 ≤ x.offset) →
    ∀ k, k < 56 → readArea t (p.bufOffset + k) = (resultBytes r).getD k 0

/-- The entry of a RESULT that is handed on for a site: the first that names it, when the site is in the mask and not TRIPPED and its count
is not 0 (R13). -/
def handedEntry (mask : SiteMask) (es : List ResultEntry) (s : State) (i : Site) : Option ResultEntry :=
  match es.find? fun e => e.site == i with
  | some e => if mask.getLsbD i = true ∧ s.sites[i].state ≠ .tripped ∧ e.failBits ≠ 0 then some e else none
  | none => none

/-- The laggards of a SYNC step: the stations whose entries show the group with a last mark below the awaited one, and this station while
its own MARK for it has not been carried (R163). -/
def Laggards (s : State) (g : Group) (m : Nat) (mask : BitVec 8) : Prop :=
  ∀ x : Station, mask.getLsbD x = true ↔
    (s.peers[x].group = some g ∧ ¬ ∃ k, s.peers[x].lastMark = some k ∧ m ≤ k)
    ∨ (x = s.link.own ∧ s.sync.markCarried = false)

/-- Nothing but the CWC differs between two states. -/
def OnlyCwc (s t : State) : Prop := t.withCwc s.cwc = s

/-- A read command has completed OK: its record stands in its buffer, its response is OK and its done flag 0, notice is given when it
was asked for, and nothing else differs from `s` (R183, R184). -/
def Returned (b : Block) (data : List Byte) (s t : State) : Prop :=
  (∀ a, readArea t a =
    if a = b.offset + 2 then 0
    else if a = b.offset + 1 then Response.ok.code
    else if b.bufOffset ≤ a ∧ a < b.bufOffset + data.length then data.getD (a - b.bufOffset) 0
    else readArea s a)
  ∧ t.cwc.attention = (if b.notify = 0 then s.cwc.attention else min 65535 (s.cwc.attention + 1))
  ∧ { t.cwc with mem := s.cwc.mem, attention := s.cwc.attention } = s.cwc
  ∧ OnlyCwc s t

/-- `k` advance requests answered one after another (R44). -/
def advances : Nat → Uag → Uag
  | 0, x => x
  | k + 1, x => advances k (advanceUag x).1

/-- A site's record that a failure of the unit in flight makes (R100). -/
def failRecord (u : Flight) (kind : FailKind) (value : Nat) (offset : Option (BitVec 32)) : FailRec :=
  { step := u.step, rep := u.rep, granule := u.granule, unit := u.unit, kind := kind, value := value, offset := offset }

/-- What the card shows a site's account to be: log, counts, totals and bad-block set. -/
def SameAccount (x y : SiteRec) : Prop :=
  x.log = y.log ∧ x.cursor = y.cursor ∧ x.overflow = y.overflow ∧ x.failUnits = y.failUnits ∧ x.failBits = y.failBits
  ∧ x.badBlocks = y.badBlocks

/-- One failure entered into a site's account: the record appended while the log has room and counted as overflow otherwise, and the
unit counted once (R102, R103). -/
def FailureEntered (f : FailRec) (x y : SiteRec) : Prop :=
  y.log = (if x.log.length < 32 then x.log ++ [f] else x.log)
  ∧ y.overflow = (if x.log.length < 32 then x.overflow else min 65535 (x.overflow + 1))
  ∧ y.failUnits = (if x.unitFailed then x.failUnits else min 65535 (x.failUnits + 1))

/-- What a carried rail or sync frame leaves as it was: every entry but the sender's, the store, the two lines and the sites' accounts. -/
def FrameLeaves (x : Station) (s t : State) : Prop :=
  (∀ y : Station, y ≠ x → t.peers[y] = s.peers[y]) ∧ t.store = s.store ∧ t.alert = s.alert
  ∧ (∀ i : Site, SameAccount s.sites[i] t.sites[i]) ∧ t.link.own = s.link.own ∧ t.link.ownBudget = s.link.ownBudget

/-- The frame that a carried-frame command brings, with its station, when its fields lie in their ranges (R118). -/
def frameOf : Instr → Option (Station × Frame)
  | .release x n => (releaseFrame n).map fun f => (x, f)
  | .withdraw x => some (x, .withdraw)
  | .leave x g => (leaveFrame g).map fun f => (x, f)
  | .state x h b => (stateFrame h b).map fun f => (x, f)
  | .roll x b => (rollFrame b).map fun f => (x, f)
  | .mark x g k => (markFrame g k).map fun f => (x, f)
  | .wait x n => (waitFrame n).map fun f => (x, f)
  | .claim x n k => (claimFrame n k).map fun f => (x, f)
  | _ => none

/-- The UAG as a step loads it: the position not begun, and the values derived from the address part and the profile's exponents (R23,
R42). What a DEVICE step loads as its direction is not read (R48) and not stated. -/
def LoadedFrom (pr : Profile) (kind : AddrKind) (a : AddrPart) (x : Uag) : Prop :=
  x.loaded = true ∧ x.r = 0 ∧ x.v = 0 ∧ x.u = none ∧ x.ended = false
  ∧ x.load.kind = kind ∧ x.load.granule = a.granule ∧ x.load.count = a.count ∧ x.load.repeats = a.repeats ∧ x.load.base = a.base
  ∧ (a.granule = .page → x.load.g = pr.c + pr.b + pr.s) ∧ (a.granule = .sector → x.load.g = pr.c + pr.b)
  ∧ (a.granule = .block → x.load.g = pr.c)
  ∧ (a.granule ≠ .device → x.load.w = (if a.wrap = 0 then x.load.g else a.wrap) ∧ x.load.e = a.stride % 2 ^ x.load.w
      ∧ x.load.h = a.base - a.base % 2 ^ x.load.w ∧ x.load.dir = a.dir)
  ∧ (a.granule = .device → x.load.g = 0 ∧ x.load.w = 0 ∧ x.load.h = 0 ∧ x.load.e = 0)

/-- The UAG unloaded: the position cleared, the loaded fields kept (R40, R41). -/
def unloaded (x : Uag) : Uag := { x with loaded := false, r := 0, v := 0, u := none, ended := false }

/-- The run record once step k is entered, with its pass plan: the step current with its record, the four visit counters, the pass and
the pass demand 0 (R63, R64). -/
def entryRun (k : Nat) (rec : StepRecord) (passes size : Nat) (members : List SiteMask) (r : Run) : Run :=
  { r with
    phase := .entry, stage := .begin, current := some k, record := some rec, produced := 0, issued := 0, excluded := 0, noSite := 0
    pass := 0, passes := passes, passSize := size, members := members, passDemand := 0, restarted := false }

/-- The payload fields of a frame lie in the ranges of R118, by the figures of its kind code and its three payload bytes (section 12.2). -/
def FieldsInRange (code p1 p2 p3 : Nat) : Prop :=
  (code = 1 ∨ code = 7 ∨ code = 8 → 1 ≤ 256 * p1 + p2 ∧ 256 * p1 + p2 ≤ 1023)
  ∧ (code = 8 → p3 ≤ 127)
  ∧ (code = 3 ∨ code = 6 → p1 ≤ 3)
  ∧ (code = 6 → p2 ≤ 128)
  ∧ (code = 5 → 256 * p1 + p2 ≤ 1023)
  ∧ (code = 4 → 16 * p1 + p2 / 16 ≤ 1023 ∧ 256 * (p2 % 16) + p3 ≤ 1023)

/-- A frame whose fields lie in their ranges (R118). -/
def goodFrame : Frame → Prop
  | .release n | .wait n => 1 ≤ n ∧ n ≤ 1023
  | .withdraw | .leave _ => True
  | .state h b => h ≤ 1023 ∧ b ≤ 1023
  | .roll b => b ≤ 1023
  | .mark _ k => k ≤ 128
  | .claim n k => 1 ≤ n ∧ n ≤ 1023 ∧ k ≤ 127

/-! ## Invariants -/

/-- The window memory has its canonical form. -/
def MemoryCanonical (s : State) : Prop := Memory.wf s.cwc.mem = true

/-- A site's busy flag and its timer's running flag are set together (R84). -/
def FlagsTogether (s : State) : Prop := ∀ i : Site, s.sites[i].busy = s.timers.running[i]

/-- A queue of blocks that a valid post can have put there: of its own class, at a valid offset (R178, R179). -/
def goodQueue (plan : Bool) (q : List Block) : Prop :=
  ∀ b ∈ q, postValid b.offset = true ∧ ∃ c, cmdOfCode b.code = some c ∧ c.isPlan = plan

/-- The urgent queue holds at most 4 blocks and the plan queue at most 8, each of its class, and every block held was posted at a valid
offset (R178, R179). -/
def QueuesBounded (s : State) : Prop :=
  s.cwc.urgent.length ≤ 4 ∧ s.cwc.plan.length ≤ 8 ∧ goodQueue false s.cwc.urgent ∧ goodQueue true s.cwc.plan
  ∧ ∀ b ∈ heldBlocks s.cwc, postValid b.offset = true

/-- A pending CLAIM is for the own demand and satisfies the claim rule by the figures in force (R144). -/
def ClaimJustified (s : State) : Prop :=
  ∀ u k, s.link.out.claim = some (u, k) → s.rail.ownDemand = some u ∧ claimRule s u = true

/-- A link that is MUTE or OFF has nothing pending and nothing on the line, and eight objections have made it so (R123, R127, R128). -/
def SilentWhenMute (s : State) : Prop :=
  (linkSends s = false → s.link.out = Outgoing.empty ∧ s.link.attempt = none)
  ∧ s.link.objections ≤ 8 ∧ (s.link.objections = 8 → linkSends s = false)

/-- A HALTED card: link OFF, no run, and an empty tally and waiter list (R155, R175). -/
def HaltedIsStill (s : State) : Prop :=
  s.alert.halted = true →
    s.link.st = .off ∧ s.link.out = Outgoing.empty ∧ s.link.attempt = none ∧ s.run.seq = .idle
    ∧ s.rail.st = .none ∧ s.rail.seeking = false ∧ s.rail.givingUp = false ∧ s.rail.waiters = []
    ∧ ∀ x : Station, s.peers[x].held = 0

/-- The ranges of a peer-table entry, with group and last mark set and cleared together, and nothing in an entry that is not
present (R132, R136, R156). -/
def goodPeer (e : Peer) : Prop :=
  e.held ≤ 1023
  ∧ (∀ n, e.need = some n → 1 ≤ n ∧ n ≤ 1023)
  ∧ (∀ b, e.budget = some b → 8 ≤ b ∧ b ≤ 1023)
  ∧ (∀ k, e.lastMark = some k → k ≤ 128)
  ∧ e.group.isSome = e.lastMark.isSome
  ∧ (e.present = false → e = Peer.absent)

/-- The peer table, the waiter list and the budgets stay in their ranges, and a station is listed exactly while it has a need (R132,
R133, R136). -/
def TablesInRange (s : State) : Prop :=
  (∀ x : Station, goodPeer s.peers[x])
  ∧ s.rail.waiters.Nodup ∧ (∀ x : Station, x ∈ s.rail.waiters ↔ s.peers[x].need.isSome = true)
  ∧ 8 ≤ s.link.effBudget ∧ s.link.effBudget ≤ s.link.ownBudget ∧ s.link.ownBudget ≤ 1023

/-- A site's account within its ranges: log, cursor, counts, totals, and a bad-block set that is ascending (R1, R103, R107). -/
def goodAccount (x : SiteRec) : Prop :=
  x.log.length ≤ 32 ∧ x.cursor ≤ x.log.length ∧ x.overflow ≤ 65535 ∧ x.failUnits ≤ 65535 ∧ x.failBits ≤ 4294967295
  ∧ x.badBlocks.length ≤ 64 ∧ x.badBlocks.Pairwise (· < ·)

/-- A CONTACT-CHECK awaits its reply or is held by the HCI. -/
def ContactPending (h : Hci) : Prop :=
  (∃ o, h.outstanding = some o ∧ o.request = .contactCheck) ∨ h.held = some .contactCheck

/-- An ACTIVE site has bin 0 (R1). It stays so because a CONTACT-CHECK belongs to a run in its start sequence, where no site is ACTIVE and
every site that may become ACTIVE has bin 0, and because no site is ACTIVE outside a run (R3, R6, R62). -/
def ActiveUnbinned (s : State) : Prop :=
  (∀ i : Site, s.sites[i].state = .active → s.sites[i].bin = 0)
  ∧ (s.run.seq = .idle → ∀ i : Site, s.sites[i].state ≠ .active)
  ∧ (ContactPending s.hci →
      s.run.seq ≠ .idle ∧ (s.run.ending = none → s.run.stage = .contact)
      ∧ (s.run.ending ≠ none → s.hci.held = some .abandon ∧ s.run.teardown = .abandon)
      ∧ (s.hci.held = some .contactCheck → ∀ o, s.hci.outstanding = some o → o.request ≠ .contactCheck)
      ∧ ∀ i : Site, s.sites[i].state ≠ .active ∧ (s.sites[i].state ≠ .tripped → s.sites[i].bin = 0))

/-- Every site's account and every saturating counter stays in its range (R19, R178, R185, R167). -/
def CountsInRange (s : State) : Prop :=
  (∀ i : Site, goodAccount s.sites[i])
  ∧ s.hci.strays ≤ 65535 ∧ s.cwc.badPosts ≤ 65535 ∧ s.cwc.attention ≤ 65535 ∧ s.alert.count ≤ 255

end Sys2Proof.Machine
end

