-- ==== Sys2Proof/Certificates/Slice0/Obligations.lean ====
section
/-! DEFINITION. The statements about the card that the provers are to settle. Each follows the rules its docstring names. -/

open Sys2Proof Sys2Proof.Machine

/-! ## The queue and the outcomes -/

/-- A step takes the command at the front of the queue and is that command's effect on the card with the rest of the queue. -/
def Obligations.StepTakesFront : Prop :=
  ∀ (c : Instr) (rest : List Instr) (s : State), s.pending = c :: rest → step s = exec c (s.withPending rest)

/-- On an empty queue one tick passes. That a tick is a step on the empty queue is the model's choice (log 2), and so is that a clock that
has reached its end stands there (log 3): a running timer below the high limit rises by 1 (R87), the deadlines and the remaining
times fall by 1, those of a phase only while RUNNING in it (R59), and nothing else changes. -/
def Obligations.EmptyQueuePassesTick : Prop :=
  ∀ s : State, s.pending = [] → ∃ t, step s = .next t
    ∧ (∀ (i : Site) (d : TimedStep), s.timers.timed = some d → s.timers.running[i] = true →
        t.timers.values[i] = if s.timers.values[i] < d.limits.high then s.timers.values[i] + 1 else s.timers.values[i])
    ∧ (∀ i : Site, s.timers.running[i] = false ∨ s.timers.timed = none → t.timers.values[i] = s.timers.values[i])
    ∧ t.timers = { s.timers with values := t.timers.values }
    ∧ t.hci = { s.hci with outstanding := s.hci.outstanding.map fun o => { o with deadline := o.deadline - 1 } }
    ∧ t.run = { s.run with
        dwellRem := if s.run.seq = .running ∧ s.run.phase = .dwell then s.run.dwellRem - 1 else s.run.dwellRem
        syncRem := if s.run.seq = .running ∧ s.run.phase = .sync then s.run.syncRem.map (· - 1) else s.run.syncRem
        supplyRem := if s.run.seq = .running ∧ s.run.phase = .supply then s.run.supplyRem.map (· - 1) else s.run.supplyRem
        guardRem := s.run.guardRem - 1 }
    ∧ t.link = { s.link with rollWindow := s.link.rollWindow.map (· - 1) }
    ∧ t.pending = [] ∧ t.cwc = s.cwc ∧ t.store = s.store ∧ t.uag = s.uag ∧ t.sites = s.sites ∧ t.peers = s.peers ∧ t.rail = s.rail
    ∧ t.sync = s.sync ∧ t.alert = s.alert

/-- Every well-formed command is answered with a next state, in every state of the card, and no command touches the queue of commands:
only `step` takes from it. That a write named at an offset outside the window is a fault is the model's choice (log 25). -/
def Obligations.CommandsAnswered : Prop :=
  (∀ (c : Instr) (s : State), c.wellFormed = true → ∃ t, exec c s = .next t)
  ∧ (∀ (offset : Nat) (v : Byte) (s : State), 0x1000 ≤ offset → exec (.windowWrite offset v) s = .fault .windowOffset)
  ∧ (∀ (c : Instr) (s t : State), exec c s = .next t → t.pending = s.pending)

/-! ## The window -/

/-- R177, R178, R185: a write in the block and buffer area is stored and reads back, with every other byte as it was; a write in the status
area or the unused area changes nothing. The first byte of the post cell or of the attention cell is held and has no other effect; the
second byte of the attention cell lowers the count by the value the two bytes form, and not below 0, and the attention output is
asserted while the count is above 0. -/
def Obligations.WindowBytesWritten : Prop :=
  (∀ (a : Nat) (v : Byte) (s : State), MemoryCanonical s →
    (0x100 ≤ a → a < 0x1000 → ∃ t, exec (.windowWrite a v) s = .next t
      ∧ (∀ x, readArea t x = if x = a then v else readArea s x)
      ∧ { t.cwc with mem := s.cwc.mem } = s.cwc ∧ OnlyCwc s t)
    ∧ (a < 0x40 ∨ (0x44 ≤ a ∧ a < 0x100) → exec (.windowWrite a v) s = .next s))
  ∧ (∀ (v : Byte) (s : State),
    exec (.postFirstByte v) s = .next (s.withCwc { s.cwc with postHeld := v })
    ∧ exec (.attentionFirstByte v) s = .next (s.withCwc { s.cwc with attentionHeld := v })
    ∧ ∃ t, exec (.attentionAcknowledge v) s = .next t
      ∧ t = s.withCwc { s.cwc with attention := s.cwc.attention - (256 * s.cwc.attentionHeld.toNat + v.toNat) }
      ∧ (attentionOutput t = true ↔ 256 * s.cwc.attentionHeld.toNat + v.toNat < s.cwc.attention))

/-- R178, R179: a valid post of a known command whose queue has room appends the copy of the 64 bytes to that queue, sets the done
flag to 0xFF and is shown by the post cell; an invalid post raises the bad-post count alone; a valid post of an unknown code completes
COMMAND UNKNOWN and one whose queue is full completes QUEUE FULL, both at once, with the queues unchanged. -/
def Obligations.PostsTaken : Prop :=
  (∀ (v : Byte) (s : State) (c : Cmd), MemoryCanonical s → postValid (256 * s.cwc.postHeld.toNat + v.toNat) = true →
    cmdOfCode (readArea s (256 * s.cwc.postHeld.toNat + v.toNat)) = some c →
    (if c.isPlan then s.cwc.plan.length < 8 else s.cwc.urgent.length < 4) →
    ∃ t b, exec (.post v) s = .next t
      ∧ b.offset = 256 * s.cwc.postHeld.toNat + v.toNat ∧ b.bytes = readBytes s b.offset 64
      ∧ t.cwc.postCell = s.cwc.postHeld ++ v
      ∧ t.cwc.plan = (if c.isPlan then s.cwc.plan ++ [b] else s.cwc.plan)
      ∧ t.cwc.urgent = (if c.isPlan then s.cwc.urgent else s.cwc.urgent ++ [b])
      ∧ (∀ a, readArea t a = if a = b.offset + 2 then 0xFF else readArea s a)
      ∧ { t.cwc with mem := s.cwc.mem, postCell := s.cwc.postCell, plan := s.cwc.plan, urgent := s.cwc.urgent } = s.cwc
      ∧ OnlyCwc s t)
  ∧ (∀ (v : Byte) (s : State), MemoryCanonical s →
    (postValid (256 * s.cwc.postHeld.toNat + v.toNat) = false →
      exec (.post v) s = .next (s.withCwc
        { s.cwc with postCell := s.cwc.postHeld ++ v, badPosts := min 65535 (s.cwc.badPosts + 1) }))
    ∧ (postValid (256 * s.cwc.postHeld.toNat + v.toNat) = true → ∀ r : Response,
      (cmdOfCode (readArea s (256 * s.cwc.postHeld.toNat + v.toNat)) = none ∧ r = .commandUnknown
        ∨ ∃ c, cmdOfCode (readArea s (256 * s.cwc.postHeld.toNat + v.toNat)) = some c ∧ r = .queueFull
            ∧ (if c.isPlan then 8 ≤ s.cwc.plan.length else 4 ≤ s.cwc.urgent.length)) →
      ∃ t, exec (.post v) s = .next t
        ∧ (∀ a, readArea t a =
            if a = 256 * s.cwc.postHeld.toNat + v.toNat + 2 then 0
            else if a = 256 * s.cwc.postHeld.toNat + v.toNat + 1 then r.code else readArea s a)
        ∧ t.cwc.postCell = s.cwc.postHeld ++ v ∧ t.cwc.plan = s.cwc.plan ∧ t.cwc.urgent = s.cwc.urgent
        ∧ t.cwc.badPosts = s.cwc.badPosts ∧ OnlyCwc s t))

/-- R180, R183, R185: the block taken is the oldest of the urgent queue, and the oldest of the plan queue only when the urgent queue is empty.
Completing a block writes its response code and then the done flag 0x00, raises the attention count when the notify value is not 0,
which asserts the attention output, and changes nothing else. -/
def Obligations.BlockTakenAndCompleted : Prop :=
  (∀ (s : State) (b : Block) (rest : List Block),
    (s.cwc.urgent = b :: rest → takeBlock s = some (b, s.withCwc { s.cwc with urgent := rest }))
    ∧ (s.cwc.urgent = [] → s.cwc.plan = b :: rest → takeBlock s = some (b, s.withCwc { s.cwc with plan := rest }))
    ∧ (s.cwc.urgent = [] → s.cwc.plan = [] → takeBlock s = none))
  ∧ (∀ (b : Block) (r : Response) (s : State), MemoryCanonical s → postValid b.offset = true →
    (∀ a, readArea (respond b r s) a =
      if a = b.offset + 2 then 0 else if a = b.offset + 1 then r.code else readArea s a)
    ∧ (respond b r s).cwc.attention = (if b.notify = 0 then s.cwc.attention else min 65535 (s.cwc.attention + 1))
    ∧ (b.notify ≠ 0 → attentionOutput (respond b r s) = true)
    ∧ { (respond b r s).cwc with mem := s.cwc.mem, attention := s.cwc.attention } = s.cwc
    ∧ OnlyCwc s (respond b r s))

/-- R176, R181: on a HALTED card every command but the READ commands completes HALTED with no change; past that check a wrong operand length
completes OPERAND LENGTH, and with a right one a buffer that fails the placement rule completes BUFFER RANGE, for every command. -/
def Obligations.WindowChecksInOrder : Prop :=
  ∀ (c : Cmd) (straps : Straps) (b : Block) (s s0 : State), Serving c b s s0 →
    (s0.alert.halted = true → c.isRead = false → exec (c.event straps) s = .next (respond b .halted s0))
    ∧ (s0.alert.halted = false ∨ c.isRead = true →
      (48 < b.opLength ∨ (∃ n, c.operandLength = some n ∧ b.opLength ≠ n) →
        exec (c.event straps) s = .next (respond b .operandLength s0))
      ∧ (b.opLength ≤ 48 → (∀ n, c.operandLength = some n → b.opLength = n) →
        ∀ n, c.returnLength = some n → ¬ (c = .run ∧ b.bufOffset = 0) →
        (b.bufOffset < 0x100 ∨ 0x1000 ≤ b.bufOffset ∨ 0x1000 < b.bufOffset + b.bufLength ∨ b.bufLength < n
          ∨ (b.bufLength ≠ 0 ∧ b.offset < b.bufOffset + b.bufLength ∧ b.bufOffset < b.offset + 64)) →
        exec (c.event straps) s = .next (respond b .bufferRange s0)))

/-! ## The plan -/

/-- R26: SET-PROFILE's conditions in order, and the profile replaced in every field when none holds. That an operand too short to hold its
window count has a count of 0, which decides between two refusals, is the model's choice (log 9). -/
def Obligations.ProfileReplaced : Prop :=
  ∀ (b : Block) (s s0 : State), Served .setProfile b s s0 →
    (s0.run.seq ≠ .idle → exec .setProfile s = .next (respond b .runActive s0))
    ∧ (s0.run.seq = .idle → (∃ k, k < 128 ∧ (s0.store.steps[k]?).join ≠ none) →
        exec .setProfile s = .next (respond b .profileInUse s0))
    ∧ (s0.run.seq = .idle → (∀ k, k < 128 → (s0.store.steps[k]?).join = none) →
        (4 < b.windowCount → exec .setProfile s = .next (respond b .profileRange s0))
        ∧ (b.windowCount ≤ 4 → b.opLength ≠ 28 + 4 * b.windowCount → exec .setProfile s = .next (respond b .operandLength s0))
        ∧ (b.windowCount ≤ 4 → b.opLength = 28 + 4 * b.windowCount → (profileOperand b).inRange = false →
            exec .setProfile s = .next (respond b .profileRange s0))
        ∧ (b.windowCount ≤ 4 → b.opLength = 28 + 4 * b.windowCount → (profileOperand b).inRange = true →
            exec .setProfile s = .next (respond b .ok (s0.withStore { s0.store with profile := some (profileOperand b) }))))

/-- R34, R35, R36: an index above 127, a RUNNING or PAUSING sequencer, and a PAUSED one at an index not above the current step refuse a
DEFINE-STEP, in that order; then a card without a profile; then the first of rows 5 to 15, told by the operand's bytes and the
profile's figures, gives the response; when none holds the record is written into its entry and no other. That a byte beyond the
operand length stands as 0 in these figures is the model's choice (log 9). -/
def Obligations.StepDefined : Prop :=
  ∀ (b : Block) (s s0 : State), Served .defineStep b s s0 →
    (firstRefusal (defineStepChecks b s0) = none → ∃ t, exec .defineStep s = .next (respond b .ok t)
      ∧ (∀ k, k < 128 → t.store.steps[k]? = if k = b.stepIndex then some (some (stepOperand b)) else s0.store.steps[k]?)
      ∧ t.store.profile = s0.store.profile ∧ t.store.stopOption = s0.store.stopOption ∧ t.withStore s0.store = s0)
    ∧ (127 < b.stepIndex → exec .defineStep s = .next (respond b .stepRange s0))
    ∧ (b.stepIndex ≤ 127 → s0.run.seq = .running ∨ s0.run.seq = .pausing → exec .defineStep s = .next (respond b .runActive s0))
    ∧ (∀ k, b.stepIndex ≤ 127 → s0.run.seq = .paused → s0.run.current = some k → b.stepIndex ≤ k →
        exec .defineStep s = .next (respond b .stepInUse s0))
    ∧ (StepPlace b s0 → s0.store.profile = none → exec .defineStep s = .next (respond b .noProfile s0))
    ∧ (∀ pr r, StepPlace b s0 → s0.store.profile = some pr → firstRefusal (stepRefusals b pr) = some r →
        exec .defineStep s = .next (respond b r s0))
    ∧ (∀ pr, StepPlace b s0 → s0.store.profile = some pr → firstRefusal (stepRefusals b pr) = none →
        ∃ t, exec .defineStep s = .next (respond b .ok t) ∧ t.store.steps[b.op 0]? = some (some (stepOperand b)))

/-- R37: DELETE-STEPS empties every entry of its range and no other, unless the range is out of order or a run is in progress. -/
def Obligations.StepsDeleted : Prop :=
  ∀ (b : Block) (s s0 : State), Served .deleteSteps b s s0 →
    (b.op 1 < b.op 0 ∨ 127 < b.op 1 → exec .deleteSteps s = .next (respond b .stepRange s0))
    ∧ (b.op 0 ≤ b.op 1 → b.op 1 ≤ 127 → s0.run.seq ≠ .idle → exec .deleteSteps s = .next (respond b .runActive s0))
    ∧ (b.op 0 ≤ b.op 1 → b.op 1 ≤ 127 → s0.run.seq = .idle → ∃ t, exec .deleteSteps s = .next (respond b .ok t)
        ∧ (∀ k, k < 128 → t.store.steps[k]? = if b.op 0 ≤ k ∧ k ≤ b.op 1 then some none else s0.store.steps[k]?)
        ∧ t.store.profile = s0.store.profile ∧ t.store.stopOption = s0.store.stopOption ∧ t.withStore s0.store = s0)

/-- R61, R62, R85, R110: an accepted RUN becomes the outstanding RUN block, sets the run record, clears the results, the timers, the
error record, the result record and the alert count, and sends CONTACT-CHECK with its 5 ms deadline. That the current step is absent from
here on (R59, R61), where R60 would show the last run's until the first step entry, is the model's choice (log 39). -/
def Obligations.RunStarted : Prop :=
  ∀ (b : Block) (g : Option Group) (s s0 : State), Served .run b s s0 → HciQuiet s0 →
    s0.run.seq = .idle → s0.store.profile ≠ none → b.op 0 ≤ b.op 1 → b.op 1 ≤ 127 → runGroupOf (b.op 2) = some g →
    (∀ k, b.op 0 ≤ k → k ≤ b.op 1 → (s0.store.steps[k]?).join ≠ none) → s0.link.st = .up →
    ¬ (s0.store.stopOption = .shutdown ∧ s0.alert.level = true) →
    ∃ t, exec .run s = .next t
      ∧ t.cwc = { s0.cwc with outRun := some b }
      ∧ t.run.seq = .running ∧ t.run.phase = .entry ∧ t.run.first = b.op 0 ∧ t.run.last = b.op 1 ∧ t.run.group = g
      ∧ t.run.current = none ∧ t.run.pass = 0 ∧ t.run.stepsCompleted = 0 ∧ t.run.ending = none ∧ t.run.heldPause = false
      ∧ t.run.heldSyncPass = false ∧ t.run.result = none
      ∧ t.hci = { s0.hci with outstanding := some { request := .contactCheck, deadline := 500 }, err := none, cable := some .contactCheck }
      ∧ t.alert = { s0.alert with count := 0 }
      ∧ (∀ i : Site, t.sites[i] = { SiteRec.reset with state := s0.sites[i].state, busy := s0.sites[i].busy })
      ∧ (∀ i : Site, t.timers.values[i] = 0) ∧ t.timers.timed = none ∧ t.timers.latch = s0.timers.latch
      ∧ t.store = s0.store ∧ t.uag = s0.uag ∧ t.link = s0.link ∧ t.peers = s0.peers ∧ t.rail = s0.rail ∧ t.sync = s0.sync

/-- R61: RUN's seven conditions, in order. -/
def Obligations.RunRefusedInOrder : Prop :=
  ∀ (b : Block) (s s0 : State), Served .run b s s0 →
    (s0.run.seq ≠ .idle → exec .run s = .next (respond b .runActive s0))
    ∧ (s0.run.seq = .idle →
      (s0.store.profile = none → exec .run s = .next (respond b .noProfile s0))
      ∧ (s0.store.profile ≠ none →
        (b.op 1 < b.op 0 ∨ 127 < b.op 1 → exec .run s = .next (respond b .stepRange s0))
        ∧ (b.op 0 ≤ b.op 1 → b.op 1 ≤ 127 →
          (4 ≤ b.op 2 ∧ b.op 2 ≠ 0xFF → exec .run s = .next (respond b .kindUnknown s0))
          ∧ (b.op 2 < 4 ∨ b.op 2 = 0xFF →
            ((∃ k, b.op 0 ≤ k ∧ k ≤ b.op 1 ∧ (s0.store.steps[k]?).join = none) →
              exec .run s = .next (respond b .stepUndefined s0))
            ∧ ((∀ k, b.op 0 ≤ k → k ≤ b.op 1 → (s0.store.steps[k]?).join ≠ none) →
              (s0.link.st ≠ .up → exec .run s = .next (respond b .linkNotReady s0))
              ∧ (s0.link.st = .up → s0.store.stopOption = .shutdown → s0.alert.level = true →
                exec .run s = .next (respond b .alertActive s0)))))))

/-- R7, R111, R170: SET-STOP-OPTION, SITE-RESTORE and CLEAR-RESULTS complete HALTED on a HALTED card and RUN ACTIVE during a run; a value
that names no option and an empty mask are refused; otherwise each has its effect and no other. -/
def Obligations.SettingsAndResults : Prop :=
  (∀ (c : Cmd) (straps : Straps) (b : Block) (s s0 : State), c = .setStopOption ∨ c = .siteRestore ∨ c = .clearResults →
      Serving c b s s0 → s0.alert.halted = true → exec (c.event straps) s = .next (respond b .halted s0))
  ∧ (∀ (c : Cmd) (straps : Straps) (b : Block) (s s0 : State), c = .setStopOption ∨ c = .siteRestore ∨ c = .clearResults →
      Served c b s s0 → s0.run.seq ≠ .idle → exec (c.event straps) s = .next (respond b .runActive s0))
  ∧ (∀ (b : Block) (s s0 : State), Served .setStopOption b s s0 → s0.run.seq = .idle →
      (b.op 0 = 0 → exec .setStopOption s = .next (respond b .ok (s0.withStore { s0.store with stopOption := .shutdown })))
      ∧ (b.op 0 = 1 → exec .setStopOption s = .next (respond b .ok (s0.withStore { s0.store with stopOption := .ignore })))
      ∧ (2 ≤ b.op 0 → exec .setStopOption s = .next (respond b .kindUnknown s0)))
  ∧ (∀ (b : Block) (s s0 : State), Served .siteRestore b s s0 → s0.run.seq = .idle →
      (b.opMask = 0 → exec .siteRestore s = .next (respond b .siteRange s0))
      ∧ (b.opMask ≠ 0 → ∃ t, exec .siteRestore s = .next (respond b .ok t) ∧ t.withSites s0.sites = s0
          ∧ ∀ i : Site, t.sites[i] =
              if b.opMask.getLsbD i = true ∧ s0.sites[i].state = .tripped then { s0.sites[i] with state := .vacant }
              else s0.sites[i]))
  ∧ (∀ (b : Block) (s s0 : State), Served .clearResults b s s0 → s0.run.seq = .idle →
      ∃ t, exec .clearResults s = .next (respond b .ok t) ∧ t.withSites s0.sites = s0
        ∧ ∀ i : Site, t.sites[i] = { SiteRec.reset with
            state := s0.sites[i].state, busy := s0.sites[i].busy, stats := s0.sites[i].stats })

/-! ## Reading -/

/-- R76, R113, R116, R135, R187: the reading commands that change nothing complete OK with their record, of its return length, in the
buffer; READ-RESULT gives the empty record while a run is in progress. That bytes which no field takes are 0 (log 24), and what the other
fields of an empty record, the group of a run without one and the end cause of a run that is not ending hold (log 36), are the model's
choices. -/
def Obligations.RecordsRead : Prop :=
  ∀ (b : Block) (s s0 : State), MemoryCanonical s → postValid b.offset = true →
    (Served .readStatus b s s0 → ∃ t, exec .readStatus s = .next t ∧ (statusBytes s0).length = 96
      ∧ Returned b (statusBytes s0) s0 t)
    ∧ (Served .readPeers b s s0 → ∃ t, exec .readPeers s = .next t ∧ (peersBytes s0).length = 88
      ∧ Returned b (peersBytes s0) s0 t)
    ∧ (Served .readResult b s s0 → s0.run.seq = .idle → ∃ t, exec .readResult s = .next t
      ∧ (resultBytes s0.run.result).length = 56 ∧ Returned b (resultBytes s0.run.result) s0 t)
    ∧ (Served .readResult b s s0 → s0.run.seq ≠ .idle → ∃ t, exec .readResult s = .next t
      ∧ (resultBytes none).length = 56 ∧ Returned b (resultBytes none) s0 t)
    ∧ (∀ i : Site, Served .readSite b s s0 → b.op 0 = i → ∃ t, exec .readSite s = .next t ∧ (siteBytes s0 i).length = 36
      ∧ Returned b (siteBytes s0 i) s0 t)
    ∧ (∀ i : Site, Served .readBadBlocks b s s0 → b.op 0 = i → s0.sites[i].badBlocks.length ≤ 64 →
      ∃ t, exec .readBadBlocks s = .next t ∧ (badBlockBytes s0 i).length = 132 ∧ Returned b (badBlockBytes s0 i) s0 t)
    ∧ (Served .readSite b s s0 → 16 ≤ b.op 0 → exec .readSite s = .next (respond b .siteRange s0))
    ∧ (Served .readBadBlocks b s s0 → 16 ≤ b.op 0 → exec .readBadBlocks s = .next (respond b .siteRange s0))

/-- R114, R115: READ-FAIL-LOG's conditions in order; it returns the unread records up to its maximum and moves the cursor past them,
and nothing else; REWIND-LOG sets the named cursors back to 0, and completes HALTED on a HALTED card. That the places of the buffer beyond
the records returned are written 0 is the model's choice (log 24). -/
def Obligations.FailLogReadAndRewound : Prop :=
  (∀ (b : Block) (s s0 : State), Served .readFailLog b s s0 →
    (16 ≤ b.op 0 → exec .readFailLog s = .next (respond b .siteRange s0))
    ∧ (b.op 0 < 16 → b.op 1 = 0 ∨ 32 < b.op 1 → exec .readFailLog s = .next (respond b .countRange s0))
    ∧ (b.op 0 < 16 → 1 ≤ b.op 1 → b.op 1 ≤ 32 → b.bufLength < 8 + 16 * b.op 1 →
        exec .readFailLog s = .next (respond b .bufferRange s0))
    ∧ (∀ i : Site, MemoryCanonical s → postValid b.offset = true → b.op 0 = i → 1 ≤ b.op 1 → b.op 1 ≤ 32 →
        8 + 16 * b.op 1 ≤ b.bufLength →
        ∃ t k, exec .readFailLog s = .next t
          ∧ k = min (b.op 1) (s0.sites[i].log.length - s0.sites[i].cursor)
          ∧ Returned b (failLogBytes s0 i k (b.op 1))
              (updSite i (fun x => { x with cursor := s0.sites[i].cursor + k }) s0) t))
  ∧ (∀ (b : Block) (s s0 : State), Serving .rewindLog b s s0 → s0.alert.halted = true →
    exec .rewindLog s = .next (respond b .halted s0))
  ∧ (∀ (b : Block) (s s0 : State), Served .rewindLog b s s0 →
    (b.opMask = 0 → exec .rewindLog s = .next (respond b .siteRange s0))
    ∧ (b.opMask ≠ 0 → ∃ t, exec .rewindLog s = .next (respond b .ok t) ∧ t.withSites s0.sites = s0
        ∧ ∀ i : Site, t.sites[i] =
            if b.opMask.getLsbD i = true then { s0.sites[i] with cursor := 0 } else s0.sites[i]))

/-- R97, R98: SNAPSHOT fills an EMPTY latch and completes HELD with a full one; READ-SNAPSHOT writes out and empties a full latch, and
writes a live record when it is empty. A HALTED card refuses SNAPSHOT, and a buffer that fails its rule leaves the latch as it was. -/
def Obligations.SnapshotLatched : Prop :=
  ∀ (b : Block) (s s0 : State),
    (Serving .snapshot b s s0 → s0.alert.halted = true → exec .snapshot s = .next (respond b .halted s0))
    ∧ (Serving .readSnapshot b s s0 → b.opLength = 0 → bufferOk b 80 = false →
      exec .readSnapshot s = .next (respond b .bufferRange s0))
    ∧ (Served .snapshot b s s0 → s0.timers.latch = none →
      exec .snapshot s = .next (respond b .ok (s0.withTimers { s0.timers with latch := some (snapshotOf s0) })))
    ∧ (∀ n, Served .snapshot b s s0 → s0.timers.latch = some n → exec .snapshot s = .next (respond b .held s0))
    ∧ (∀ n, MemoryCanonical s → postValid b.offset = true → Served .readSnapshot b s s0 → s0.timers.latch = some n →
        ∃ t, exec .readSnapshot s = .next t ∧ (snapshotBytes 1 n).length = 80
          ∧ Returned b (snapshotBytes 1 n) (s0.withTimers { s0.timers with latch := none }) t)
    ∧ (MemoryCanonical s → postValid b.offset = true → Served .readSnapshot b s s0 → s0.timers.latch = none →
        ∃ t, exec .readSnapshot s = .next t ∧ Returned b (snapshotBytes 2 (snapshotOf s0)) s0 t)

/-! ## Pausing, resuming and aborting -/

/-- R77, R78, R81: a PAUSE within the resume guard is held. Otherwise the run is PAUSED at once in phase DWELL or SYNC, and in SUPPLY while
nothing of the station's is on the line or carried; it is PAUSING, the block outstanding and the resume point recorded, while the CONTACT
reply, a unit in flight, the RELEASE of a pass, the WITHDRAW of a wait or the outcome of a CLAIM or WAIT on the line is awaited. The resume point while PAUSING is the last column
of R78's table (log 26). -/
def Obligations.PauseTaken : Prop :=
  ∀ (b : Block) (s s0 : State), Served .pause b s s0 → s0.run.seq = .running → s0.run.ending = none → s0.cwc.outPause = none →
    (s0.run.guardRem ≠ 0 →
      exec .pause s = .next ((s0.withCwc { s0.cwc with outPause := some b }).withRun { s0.run with heldPause := true }))
    ∧ (s0.run.guardRem = 0 → HciQuiet s0 → s0.run.inflight = none → s0.run.stage = .dwell →
      exec .pause s = .next (respond b .ok (s0.withRun { s0.run with
        seq := .paused, heldPause := false, resume := some { phase := .dwell, pass := s0.run.pass } })))
    ∧ (s0.run.guardRem = 0 → HciQuiet s0 → s0.run.inflight = none → s0.run.stage = .sync →
      exec .pause s = .next (respond b .ok (s0.withRun { s0.run with
        seq := .paused, heldPause := false, resume := some { phase := .sync, pass := s0.run.pass } })))
    ∧ (s0.run.guardRem = 0 → HciQuiet s0 → s0.run.inflight = none → s0.run.stage = .supply → s0.rail.st = .none →
      s0.link.attempt = none → s0.link.out.release = none → s0.link.out.withdraw = false →
      exec .pause s = .next (respond b .ok (((s0.withRail { s0.rail with
          ownDemand := none, seeking := false, givingUp := false, kept := none }).withLink { s0.link with
          out := { s0.link.out with claim := none, wait := none } }).withRun { s0.run with
        seq := .paused, heldPause := false, stage := .reenter true, resume := some { phase := .supply, pass := s0.run.pass } })))
    ∧ (s0.run.guardRem = 0 → HciQuiet s0 → s0.run.inflight = none → s0.run.stage = .supply → linkSends s0 = true →
      (s0.rail.st = .waiting ∧ framePending s0.link .withdraw = false)
        ∨ (s0.rail.st = .none ∧ (onLine s0.link .claim = true ∨ onLine s0.link .wait = true)) →
      ∃ t, exec .pause s = .next t
      ∧ t.run = { s0.run with seq := .pausing, heldPause := false, resume := some { phase := .supply, pass := s0.run.pass } }
      ∧ t.rail = { s0.rail with seeking := false, givingUp := true, kept := none }
      ∧ t.link.out = { s0.link.out with
          claim := none, wait := none, withdraw := if s0.rail.st = .waiting then true else s0.link.out.withdraw }
      ∧ t.cwc = { s0.cwc with outPause := some b })
    ∧ (s0.run.guardRem = 0 → s0.hci.outstanding ≠ none ∨ HciQuiet s0 → ∀ point : Option ResumePoint,
      (s0.run.stage = .contact ∧ s0.run.inflight = none
        ∧ (∀ rec, (s0.store.steps[s0.run.first]?).join = some rec → point = some { phase := firstPhaseOf s0.profile rec, pass := 0 })
        ∧ ((s0.store.steps[s0.run.first]?).join = none → point = none))
      ∨ (∃ u, s0.run.stage = .visits ∧ s0.run.inflight = some u
        ∧ (u.kind ≠ .operate true ∨ ∃ i : Site, u.mask.getLsbD i = true ∧ s0.sites[i].busy = true)
        ∧ point = some { phase := if s0.run.passDemand = 0 then s0.run.phase else .supply, pass := s0.run.pass })
      ∨ (s0.run.stage = .closing ∧ s0.run.inflight = none ∧ s0.rail.st ≠ .none
        ∧ point = some { phase := .supply, pass := s0.run.pass + 1 })
      ∨ (∃ fromSupply, s0.run.stage = .reenter fromSupply ∧ s0.run.inflight = none ∧ s0.rail.givingUp = true
        ∧ point = some { phase := .supply, pass := s0.run.pass })
      ∨ (∃ k, s0.run.stage = .exit ∧ s0.run.inflight = none ∧ s0.rail.st ≠ .none ∧ s0.run.current = some k
        ∧ (s0.run.last ≤ k → point = none)
        ∧ (∀ rec, k < s0.run.last → (s0.store.steps[k + 1]?).join = some rec →
            point = some { phase := firstPhaseOf s0.profile rec, pass := 0 })
        ∧ (k < s0.run.last → (s0.store.steps[k + 1]?).join = none → point = none)) →
      exec .pause s = .next ((s0.withCwc { s0.cwc with outPause := some b }).withRun { s0.run with
        seq := .pausing, heldPause := false, resume := point }))

/-- R68, R71, R78: how a PAUSING run comes to rest once no unit is in flight and no DROP is awaited. A pass that holds rail gives it back
first; a pass without a claim, a pass whose rail is given back, a step about to begin and the start of a next pass are PAUSED, with the
PAUSE block completed OK and the resume point of R78's table. An exit goes on into the next step's entry. That the phase field stands
while the run is PAUSED is the model's choice (log 26). -/
def Obligations.PausingSettles : Prop :=
  ∀ s : State, s.run.seq = .pausing → s.run.ending = none → HciQuiet s → s.run.inflight = none →
    (∀ (st : Stage) (point : ResumePoint) (rec : StepRecord),
      (s.run.stage = .visits ∧ s.uag.ended = false ∧ s.run.passDemand = 0 ∧ st = .visits
        ∧ point = { phase := s.run.phase, pass := s.run.pass })
      ∨ (s.run.stage = .visits ∧ s.uag.ended = false ∧ s.run.passDemand ≠ 0 ∧ railSettled s = true ∧ st = .reenter false
        ∧ point = { phase := .supply, pass := s.run.pass })
      ∨ (s.run.stage = .supply ∧ railSettled s = true ∧ st = .reenter true ∧ point = { phase := .supply, pass := s.run.pass })
      ∨ (s.run.stage = st ∧ s.rail.givingUp = false ∧ (st = .reenter true ∨ st = .reenter false)
        ∧ point = { phase := .supply, pass := s.run.pass })
      ∨ (s.run.stage = .begin ∧ s.run.record = some rec ∧ st = .begin
        ∧ point = { phase := firstPhaseOf s.profile rec, pass := s.run.pass })
      ∨ (s.run.stage = .closing ∧ s.rail.st = .none ∧ st = .passStart ∧ point = { phase := .supply, pass := s.run.pass + 1 }) →
      settle s = finishPause .ok (s.withRun { s.run with seq := .paused, stage := st, resume := some point }))
    ∧ (s.run.stage = .visits → s.uag.ended = false → s.run.passDemand ≠ 0 → s.rail.st = .holding → s.rail.givingUp = false →
      linkSends s = true → framePending s.link .release = false →
      (settle s).link.out = { s.link.out with claim := none, wait := none, release := some s.peers[s.link.own].held }
      ∧ (settle s).rail = { s.rail with seeking := false, givingUp := true, kept := none }
      ∧ (settle s).run = { s.run with resume := some { phase := .supply, pass := s.run.pass } } ∧ (settle s).cwc = s.cwc)
    ∧ (∀ k rec, s.run.stage = .enter k ∨ (s.run.stage = .exit ∧ s.rail.st = .none ∧ s.run.current = some (k - 1) ∧ 1 ≤ k
          ∧ k ≤ s.run.last) →
      (s.store.steps[k]?).join = some rec → activeCount s ≠ 0 →
      stepDraw s.profile rec = 0 ∨ passSelection (activeCount s) (stepDraw s.profile rec) (currentLimit s) ≠ none →
      (settle s).run.seq = .paused ∧ (settle s).run.stage = .begin ∧ (settle s).run.current = some k ∧ (settle s).run.pass = 0
      ∧ (settle s).run.stepsCompleted = s.run.stepsCompleted + (if s.run.stage = .exit then 1 else 0)
      ∧ (settle s).run.resume = some { phase := firstPhaseOf s.profile rec, pass := 0 } ∧ (settle s).cwc.outPause = none)

/-- R77, R80, R82: the refusals of PAUSE, RESUME and ABORT, in order. -/
def Obligations.RunCommandsRefused : Prop :=
  ∀ (b : Block) (s s0 : State),
    (Served .pause b s s0 →
      (s0.run.seq = .idle → exec .pause s = .next (respond b .notRunning s0))
      ∧ (s0.run.seq ≠ .idle → s0.run.ending ≠ none → exec .pause s = .next (respond b .runEnded s0))
      ∧ (s0.run.seq ≠ .idle → s0.run.ending = none → s0.cwc.outPause ≠ none →
          exec .pause s = .next (respond b .pausePending s0))
      ∧ (s0.run.seq = .paused → s0.run.ending = none → s0.cwc.outPause = none →
          exec .pause s = .next (respond b .alreadyPaused s0)))
    ∧ (Served .resume b s s0 →
      (s0.run.seq = .idle → exec .resume s = .next (respond b .notRunning s0))
      ∧ (s0.run.seq ≠ .idle → s0.run.ending ≠ none → exec .resume s = .next (respond b .runEnded s0))
      ∧ (s0.run.seq = .running → s0.run.ending = none → s0.run.heldPause = false →
          exec .resume s = .next (respond b .notPaused s0)))
    ∧ (Served .abort b s s0 →
      (s0.run.seq = .idle → exec .abort s = .next (respond b .notRunning s0))
      ∧ (s0.run.seq ≠ .idle → s0.cwc.outAbort ≠ none → exec .abort s = .next (respond b .runEnded s0)))

/-- R70, R80, R81, R150: RESUME cancels a held PAUSE or a settling one, whose block completes CANCELLED, or takes a PAUSED run back to
RUNNING at the point where it stood; a pass whose rail is being given back re-enters SUPPLY; a sync pass held meanwhile exits the step;
each completes OK and loads the resume guard with 20 ms. The card's own actions follow where something is due (RunGoesOn). That the resume
point is none afterwards (log 26), and that the sync remaining of a step passed meanwhile stands (log 34), are the model's choices. -/
def Obligations.ResumeTaken : Prop :=
  ∀ (b : Block) (s s0 : State), Served .resume b s s0 → s0.run.ending = none →
    (∀ p, s0.run.seq = .running → s0.run.heldPause = true → s0.cwc.outPause = some p →
      exec .resume s = .next (settle (respond b .ok (respond p .cancelled
        ((s0.withCwc { s0.cwc with outPause := none }).withRun { s0.run with heldPause := false, guardRem := 2000 })))))
    ∧ (∀ p, s0.run.seq = .pausing → s0.rail.givingUp = false → s0.run.heldSyncPass = false → s0.cwc.outPause = some p →
      exec .resume s = .next (settle (respond b .ok (respond p .cancelled
        ((s0.withCwc { s0.cwc with outPause := none }).withRun { s0.run with
          seq := .running, resume := none, guardRem := 2000 })))))
    ∧ (∀ p, s0.run.seq = .pausing → s0.rail.givingUp = true → s0.run.heldSyncPass = false → s0.cwc.outPause = some p →
      exec .resume s = .next (settle (respond b .ok (respond p .cancelled
        ((s0.withCwc { s0.cwc with outPause := none }).withRun { s0.run with
          seq := .running, resume := none, guardRem := 2000
          stage := if s0.run.stage = .supply then .reenter true else if s0.run.stage = .visits then .reenter false
            else s0.run.stage })))))
    ∧ (s0.run.seq = .paused → s0.run.heldSyncPass = false →
      exec .resume s = .next (settle (respond b .ok (s0.withRun { s0.run with seq := .running, resume := none, guardRem := 2000 }))))
    ∧ (s0.run.seq = .paused → HciQuiet s0 → s0.run.inflight = none → s0.run.stage = .dwell → s0.run.heldSyncPass = false →
      exec .resume s = .next (respond b .ok (s0.withRun { s0.run with seq := .running, resume := none, guardRem := 2000 })))
    ∧ (s0.run.seq = .paused → s0.run.stage = .sync → s0.run.heldSyncPass = true →
      exec .resume s = .next (settle (respond b .ok (s0.withRun { s0.run with
        seq := .running, resume := none, heldSyncPass := false, phase := .exit, stage := .exit, guardRem := 2000 }))))

/-- R23, R31, R41, R42, R43, R63, R64, R65, R66, R68, R70, R71, R80, R86, R140, R148, R150: how a RUNNING run goes on. A step entry with no
ACTIVE site ends the run NO SITES with the current step kept; with one the step becomes current with its counters, pass and demand 0, an
ERASE or PROGRAM step becomes the timed step with its limits or the profile's, its fail action and bin, and the statistics are zeroed, the
UAG is loaded or, for DWELL and SYNC, unloaded, and the plan is formed or the run ends SUPPLY RANGE. A completed exit counts the step and
goes on to the next index, or ends the run COMPLETE; exit and next pass wait for the RELEASE. A DWELL or SYNC step begins its time; a step that draws rail
and a next pass compute the demand of their ACTIVE members and hand it over, with the supply wait loaded; a re-entry to SUPPLY does so
with the wait kept when the pause was taken in SUPPLY, its demand kept while a give-up is under way, and waits for that give-up when
no member is ACTIVE; a demand above the limit ends the run SUPPLY RANGE; a carried claim begins the visits, with the UAG restarted
once a pass; a pass that ends hands over its RELEASE. That a pass paused in SUPPLY before its restart is restarted when its claim is
carried (log 10), or at its re-entry when no member is ACTIVE (log 40), the demand 0 of a skipped pass (log 27), what the stopped supply wait holds (log 34), and the stages between the rules'
moments (log 23) are the model's choices. -/
def Obligations.RunGoesOn : Prop :=
  ∀ s : State, s.run.seq = .running → s.run.ending = none → HciQuiet s → s.run.inflight = none →
    (∀ k rec, s.run.stage = .enter k → (s.store.steps[k]?).join = some rec →
      ((∀ i : Site, s.sites[i].state ≠ .active) →
        nextAction s = some (s.withRun { s.run with ending := some .noSites, teardown := .abandon }))
      ∧ ((∃ i : Site, s.sites[i].state = .active) →
        (rec.addr? = none → nextAction s = some ((s.withUag (unloaded s.uag)).withRun (entryRun k rec 0 0 [] s.run)))
        ∧ (∀ a data bin inc, rec = .verify a data bin inc → ∃ x, LoadedFrom s.profile .verify a x
            ∧ nextAction s = some ((s.withUag x).withRun (entryRun k rec 1 16 [0xFFFF] s.run)))
        ∧ (∀ kind a own default bin action,
          (rec = .erase a own bin action ∧ kind = .erase ∧ default = s.profile.eraseLimits)
            ∨ ((∃ data, rec = .program a data own bin action) ∧ kind = .program ∧ default = s.profile.programLimits) →
          ∃ t, nextAction s = some t ∧ LoadedFrom s.profile kind a t.uag
            ∧ t.timers.timed = some { step := k, limits := own.getD default, action := action, bin := bin }
            ∧ t.timers.values = s.timers.values ∧ (∀ i : Site, t.sites[i].stats = { min := 0, max := 0, sum := 0, count := 0 })
            ∧ (stepDraw s.profile rec = 0 → t.run = entryRun k rec 1 16 [0xFFFF] s.run)
            ∧ (∀ m p, stepDraw s.profile rec ≠ 0 →
                passSelection (activeCount s) (stepDraw s.profile rec) (currentLimit s) = some (m, p) →
                t.run = entryRun k rec p m (passChunks s m p) s.run)
            ∧ (stepDraw s.profile rec = 0 ∨ passSelection (activeCount s) (stepDraw s.profile rec) (currentLimit s) ≠ none →
                t.timers = { s.timers with timed := t.timers.timed }
                ∧ (∀ i : Site, t.sites[i] = { s.sites[i] with stats := { min := 0, max := 0, sum := 0, count := 0 } })
                ∧ (((t.withSites s.sites).withTimers s.timers).withUag s.uag).withRun s.run = s)
            ∧ (stepDraw s.profile rec ≠ 0 → passSelection (activeCount s) (stepDraw s.profile rec) (currentLimit s) = none →
                t.run.ending = some .supplyRange ∧ t.run.current = some k ∧ AbandonSent t))))
    ∧ (∀ k, s.run.stage = .exit → s.run.current = some k →
      (s.rail.st ≠ .none → settle s = s)
      ∧ (s.rail.st = .none → s.run.last ≤ k → nextAction s = some (s.withRun { s.run with
          stepsCompleted := s.run.stepsCompleted + 1, pass := 0, ending := some .complete, teardown := .abandon }))
      ∧ (s.rail.st = .none → k < s.run.last → nextAction s = some (s.withRun { s.run with
          stepsCompleted := s.run.stepsCompleted + 1, pass := 0, phase := .entry, stage := .enter (k + 1) })))
    ∧ (s.run.stage = .closing →
      (s.rail.st ≠ .none → settle s = s)
      ∧ (s.rail.st = .none → nextAction s = some (s.withRun { s.run with stage := .passStart })))
    ∧ (s.run.stage = .passStart → s.run.passes ≤ s.run.pass →
      nextAction s = some (s.withRun { s.run with phase := .exit, stage := .exit }))
    ∧ (s.run.stage = .contact ∨ s.run.stage = .dwell ∨ s.run.stage = .sync → settle s = s)
    ∧ (∀ time act, s.run.stage = .begin → s.run.record = some (.sync time act) → s.sync.ownGroup = none →
      nextAction s = some (s.withRun { s.run with
        phase := .exit, stage := .exit, syncRem := if time = 0 then none else some (time * 100) }))
    ∧ (∀ time, s.run.stage = .begin → s.run.record = some (.dwell time) →
      settle s = s.withRun { s.run with phase := .dwell, stage := .dwell, dwellRem := time * 100 })
    ∧ (∀ time act g, s.run.stage = .begin → s.run.record = some (.sync time act) → s.sync.ownGroup = some g →
      passingCondition s g (s.sync.markCount + 1) = false →
      (settle s).run = { s.run with
        phase := .sync, stage := .sync, syncRem := if time = 0 then none else some (time * 100) }
      ∧ (settle s).sync = { s.sync with markCount := s.sync.markCount + 1, awaited := some (s.sync.markCount + 1), markCarried := false }
      ∧ (linkSends s = true → (settle s).link.out = { s.link.out with mark := some (g, s.sync.markCount + 1) }))
    ∧ (∀ a data bin inc, s.run.stage = .begin → s.run.record = some (.verify a data bin inc) → s.uag.loaded = true →
      nextAction s = some ((s.withUag { s.uag with r := 0, v := 0, u := none, ended := false }).withRun { s.run with
        phase := .compare, stage := .visits, pass := 1, restarted := true }))
    ∧ (∀ rec, s.run.stage = .begin → s.run.record = some rec → firstPhaseOf s.profile rec = .operate → s.uag.loaded = true →
      nextAction s = some ((s.withUag { s.uag with r := 0, v := 0, u := none, ended := false }).withRun { s.run with
        phase := .operate, stage := .visits, pass := 1, restarted := true }))
    ∧ (∀ rec n d, (s.run.stage = .passStart ∨ (s.run.stage = .begin ∧ s.run.record = some rec ∧ firstPhaseOf s.profile rec = .supply)) →
      s.run.pass < s.run.passes → s.rail.st = .none → s.rail.givingUp = false →
      n = activeMembers (s.withRun { s.run with pass := s.run.pass + 1 }) → n ≠ 0 → d = (n * currentDraw s + 24) / 25 →
      (d ≤ currentLimit s → (settle s).run = { s.run with
          pass := s.run.pass + 1, phase := .supply, stage := .supply, passDemand := d, restarted := false
          supplyRem := if s.profile.supplyLimit = 0 then none else some (s.profile.supplyLimit * 100) }
        ∧ (settle s).rail = { s.rail with ownDemand := some d, seeking := true })
      ∧ (currentLimit s < d → (settle s).run.ending = some .supplyRange ∧ AbandonSent (settle s)))
    ∧ (s.run.stage = .passStart → s.run.pass < s.run.passes →
      activeMembers (s.withRun { s.run with pass := s.run.pass + 1 }) = 0 →
      nextAction s = some (s.withRun { s.run with pass := s.run.pass + 1, phase := .supply, passDemand := 0, restarted := false }))
    ∧ (∀ fromSupply d, s.run.stage = .reenter fromSupply → activeMembers s ≠ 0 → d = (activeMembers s * currentDraw s + 24) / 25 →
      (d ≤ currentLimit s → (s.rail.givingUp = true ∨ s.rail.st = .none) →
        (settle s).run = { s.run with
          phase := .supply, stage := .supply, passDemand := d
          supplyRem := if fromSupply then s.run.supplyRem
            else if s.profile.supplyLimit = 0 then none else some (s.profile.supplyLimit * 100) }
        ∧ (settle s).rail = (if s.rail.givingUp then { s.rail with kept := some d }
            else { s.rail with ownDemand := some d, seeking := true }))
      ∧ (currentLimit s < d → (settle s).run.ending = some .supplyRange ∧ AbandonSent (settle s)))
    ∧ (∀ fromSupply, s.run.stage = .reenter fromSupply → activeMembers s = 0 →
      (s.rail.givingUp = true → settle s = s)
      ∧ (s.rail.givingUp = false → s.run.restarted = true →
        nextAction s = some (s.withRun { s.run with phase := .operate, stage := .visits, passDemand := 0 }))
      ∧ (s.rail.givingUp = false → s.run.restarted = false → s.uag.loaded = true →
        nextAction s = some ((s.withUag { s.uag with r := 0, v := 0, u := none, ended := false }).withRun { s.run with
          phase := .operate, stage := .visits, passDemand := 0, restarted := true })))
    ∧ (s.run.stage = .supply → s.rail.st = .holding → s.rail.givingUp = false →
      (s.run.restarted = true → nextAction s = some (s.withRun { s.run with phase := .operate, stage := .visits }))
      ∧ (s.run.restarted = false → s.uag.loaded = true →
        nextAction s = some ((s.withUag { s.uag with r := 0, v := 0, u := none, ended := false }).withRun { s.run with
          phase := .operate, stage := .visits, restarted := true })))
    ∧ (s.run.stage = .visits → s.uag.loaded = true → s.uag.ended = false → nextAction s = some (advanceVisit s))
    ∧ (s.run.stage = .supply → s.rail.st ≠ .holding ∨ s.rail.givingUp = true → settle s = s)
    ∧ (s.run.stage = .visits → s.uag.ended = true → s.run.passDemand = 0 → nextAction s = some (s.withRun
        (if s.run.passes ≤ s.run.pass then { s.run with phase := .exit, stage := .exit } else { s.run with stage := .passStart })))
    ∧ (s.run.stage = .visits → s.uag.ended = true → s.run.passDemand ≠ 0 → s.rail.st = .holding → linkSends s = true →
      (settle s).link.out.release = some s.peers[s.link.own].held ∧ (settle s).rail = { s.rail with ownDemand := none }
      ∧ (settle s).run = (if s.run.passes ≤ s.run.pass then { s.run with phase := .exit, stage := .exit }
          else { s.run with stage := .closing }))

/-- R15, R72, R82: ABORT ends the run ABORTED: ABANDON goes out at once when the HCI is idle and is held while a request is outstanding;
in a run that is ending the end cause stands. -/
def Obligations.AbortEndsRun : Prop :=
  ∀ (b : Block) (s s0 : State), Served .abort b s s0 → s0.run.seq ≠ .idle → s0.cwc.outAbort = none →
    (s0.run.ending = none → HciQuiet s0 → ∃ t, exec .abort s = .next t
      ∧ t.cwc = { s0.cwc with outAbort := some b } ∧ t.run.ending = some .aborted ∧ t.run.seq = s0.run.seq ∧ AbandonSent t
      ∧ (∀ i : Site, t.sites[i] = { s0.sites[i] with busy := false }) ∧ t.timers.values = s0.timers.values
      ∧ t.store = s0.store ∧ t.uag = s0.uag ∧ t.link = s0.link ∧ t.peers = s0.peers ∧ t.rail = s0.rail ∧ t.sync = s0.sync
      ∧ t.alert = s0.alert)
    ∧ (∀ o, s0.run.ending = none → s0.hci.outstanding = some o → ∃ t, exec .abort s = .next t
      ∧ t.cwc = { s0.cwc with outAbort := some b } ∧ t.run.ending = some .aborted ∧ t.hci = { s0.hci with held := some .abandon }
      ∧ t.sites = s0.sites ∧ t.timers = s0.timers ∧ t.link = s0.link ∧ t.rail = s0.rail)
    ∧ (∀ cause, s0.run.ending = some cause →
      exec .abort s = .next (settle (s0.withCwc { s0.cwc with outAbort := some b })))

/-- R173, R174: RAISE-ALERT sets the raised latch and CLEAR-ALERT clears both latches; the card drives ALERT while a latch is set. On a
HALTED card both complete HALTED with the latches as they were. That the level read stays until its own event, while the drive starts or
stops, is the model's choice (log 7). -/
def Obligations.AlertLatched : Prop :=
  ∀ (b : Block) (s s0 : State),
    (Serving .raiseAlert b s s0 → s0.alert.halted = true → exec .raiseAlert s = .next (respond b .halted s0))
    ∧ (Serving .clearAlert b s s0 → s0.alert.halted = true → exec .clearAlert s = .next (respond b .halted s0))
    ∧ (Served .raiseAlert b s s0 → ∃ t, exec .raiseAlert s = .next (respond b .ok t)
      ∧ t = s0.withAlert { s0.alert with raised := true } ∧ alertDrive t.alert = true)
    ∧ (Served .clearAlert b s s0 → ∃ t, exec .clearAlert s = .next (respond b .ok t)
      ∧ t = s0.withAlert { s0.alert with raised := false, headFault := false } ∧ alertDrive t.alert = false)

/-! ## The end of a run -/

/-- R73, R74, R149, R154, R164: the ordinary teardown, once its ABANDON is done with or none is sent. What the station holds is released and
what it awaits withdrawn, a member's MARK is removed and its LEAVE handed over, and the own group becomes none; the frames of both
steps are handed over together (log 11). The run ends when they have been carried and the rail is settled, at once when there is
nothing to give back or to leave, at once after the ABANDON of a LINK MUTE, and at once on a link that discards what it is handed. That
a pass whose CLAIM was carried in the ending run stays in phase SUPPLY is the model's choice (log 38). -/
def Obligations.TeardownCarriedOut : Prop :=
  ∀ (c : EndCause) (s : State), s.run.seq ≠ .idle → s.run.ending = some c → HciQuiet s → s.run.inflight = none →
    (c ≠ .linkMute → s.run.teardown = .abandon → linkSends s = true →
      (s.rail.st = .holding → framePending s.link .release = false → (settle s).run = { s.run with teardown := .frames }
        ∧ (settle s).rail = { s.rail with seeking := false, givingUp := true, kept := none }
        ∧ (settle s).link.out.release = some s.peers[s.link.own].held ∧ (settle s).link.out.claim = none
        ∧ (settle s).link.out.wait = none)
      ∧ (s.rail.st = .waiting → framePending s.link .withdraw = false → (settle s).run = { s.run with teardown := .frames }
        ∧ (settle s).rail = { s.rail with seeking := false, givingUp := true, kept := none }
        ∧ (settle s).link.out.withdraw = true ∧ (settle s).link.out.claim = none ∧ (settle s).link.out.wait = none)
      ∧ (s.rail.st ≠ .none → ∀ g, s.sync.ownGroup = some g → (settle s).link.out.leave = some g
        ∧ (settle s).link.out.mark = none ∧ (settle s).sync = { s.sync with ownGroup := none })
      ∧ (s.rail.st = .none → s.link.attempt = none → s.link.out.release = none → s.link.out.withdraw = false →
        (∀ g, s.sync.ownGroup = some g → (settle s).run = { s.run with teardown := .frames } ∧ (settle s).link.out.leave = some g
          ∧ (settle s).sync = { s.sync with ownGroup := none })
        ∧ (s.sync.ownGroup = none → s.link.out.leave = none →
          (settle s).run.seq = .idle ∧ ∃ r, (settle s).run.result = some r ∧ r.cause = c)))
    ∧ (s.run.teardown = .frames →
      (s.rail.givingUp = true ∨ framePending s.link .leave = true → settle s = s)
      ∧ (s.rail.givingUp = false → framePending s.link .leave = false →
        linkSends s = false ∨ (s.rail.st = .none ∧ framePending s.link .claim = false ∧ framePending s.link .wait = false) →
        settle s = finishRunEnd c s))
    ∧ (c = .linkMute → s.run.teardown = .abandon → settle s = finishRunEnd c s)
    ∧ (c ≠ .linkMute → s.run.teardown = .abandon → linkSends s = false → SilentWhenMute s →
      (settle s).run.seq = .idle ∧ (∃ r, (settle s).run.result = some r ∧ r.cause = c) ∧ (settle s).rail.givingUp = false
      ∧ (settle s).sync = SyncUnit.reset)

/-- R6, R75, R76: the end of a run. Every ACTIVE site is DONE, with the pass bin at COMPLETE if its bin is 0; the result record holds the end
cause, the position, the laggards, the alert count, the error record of a HEAD LINK and the sites as they then stand; the UAG is
unloaded and the Sync Unit cleared; the run record stands but for the guard, the held flags and the ending; then the RUN block completes
with the end cause, its result buffer written before, an ABORT OK and a PAUSE RUN ENDED. -/
def Obligations.RunEnded : Prop :=
  ∀ (c : EndCause) (s t : State), t = finishRunEnd c s →
    (∀ i : Site, t.sites[i] =
      (if s.sites[i].state = .active then { s.sites[i] with
          state := .done, busy := false, bin := if c = .complete ∧ s.sites[i].bin = 0 then s.profile.passBin else s.sites[i].bin }
       else { s.sites[i] with busy := false }))
    ∧ (∃ r, t.run.result = some r ∧ r.cause = c ∧ r.lastStep = s.run.current
      ∧ r.rep = (if s.uag.r = 0 then none else some s.uag.r) ∧ r.unit = (if s.uag.r = 0 then none else s.uag.u)
      ∧ r.stepsCompleted = s.run.stepsCompleted ∧ r.laggards = s.sync.laggards ∧ r.alertCount = s.alert.count
      ∧ r.err = (if c = .headLink then s.hci.err else none)
      ∧ ∀ i : Site, r.bins[i] = t.sites[i].bin ∧ r.states[i] = t.sites[i].state)
    ∧ t.run = { s.run with
        seq := .idle, stage := .idle, ending := none, teardown := .abandon, heldPause := false, heldSyncPass := false, guardRem := 0
        inflight := none, result := t.run.result }
    ∧ t.uag = { s.uag with loaded := false, r := 0, v := 0, u := none, ended := false } ∧ t.sync = SyncUnit.reset
    ∧ t.timers.values = s.timers.values ∧ (∀ i : Site, t.timers.running[i] = false) ∧ t.timers.timed = s.timers.timed
    ∧ t.timers.latch = s.timers.latch
    ∧ t.store = s.store ∧ t.hci = s.hci ∧ t.link = s.link ∧ t.peers = s.peers ∧ t.rail = s.rail ∧ t.alert = s.alert
    ∧ t.cwc.outRun = none ∧ t.cwc.outAbort = none ∧ t.cwc.outPause = none ∧ t.cwc.urgent = s.cwc.urgent ∧ t.cwc.plan = s.cwc.plan
    ∧ t.cwc.attention = noticed s.cwc.attention (s.cwc.outRun.toList ++ s.cwc.outAbort.toList ++ s.cwc.outPause.toList)
    ∧ (c ≠ .cardReset → MemoryCanonical s → QueuesBounded s →
      (∀ p, s.cwc.outRun = some p → readArea t (p.offset + 2) = 0
        ∧ ((∀ x ∈ s.cwc.outAbort.toList ++ s.cwc.outPause.toList, x.offset ≠ p.offset) →
            readArea t (p.offset + 1) = (Response.runEnd c).code)
        ∧ ResultWritten p t.run.result (s.cwc.outRun.toList ++ s.cwc.outAbort.toList ++ s.cwc.outPause.toList) t)
      ∧ (∀ p, s.cwc.outAbort = some p → readArea t (p.offset + 2) = 0
        ∧ ((∀ x ∈ s.cwc.outPause.toList, x.offset ≠ p.offset) → readArea t (p.offset + 1) = Response.ok.code))
      ∧ (∀ p, s.cwc.outPause = some p → readArea t (p.offset + 2) = 0 ∧ readArea t (p.offset + 1) = Response.runEnded.code))

/-! ## Resets -/

/-- R2, R21, R39, R40, R41, R60, R74, R85, R134, R137, R157, R168, R188: CARD-RESET. A run in progress ends under its first end cause, or CARD
RESET, with ABANDON sent at once unless its teardown has sent it, and leaves its result record, also in RUN's result buffer; every
block takes its reset values, with TRIPPED sites, the plan, the result record and the window's counts kept; every command block that
the CWC holds is completed: those in the queues CARD RESET, the outstanding ones CARD RESET or as the end cause gives, and the
CARD-RESET block last, OK, each with its notice. That the levels of the two lines are kept (log 33), that the run record then holds first and
last step 0, no group and no resume point, for which R60 gives no value (log 18), and that the model's own control fields of a run are
idle, the first part of a teardown and clear (log 23), are the model's choices. -/
def Obligations.CardResetApplied : Prop :=
  ∀ (b : Block) (straps : Straps) (s s0 : State), Served .cardReset b s s0 →
    ∃ t, exec (.cardReset straps) s = .next t
      ∧ t.store = s0.store ∧ t.uag = { s0.uag with loaded := false, r := 0, v := 0, u := none, ended := false }
      ∧ (∀ i : Site, t.sites[i] = { SiteRec.reset with state := if s0.sites[i].state = .tripped then .tripped else .vacant })
      ∧ t.timers = TimerArray.reset ∧ t.link = Link.reset straps ∧ t.peers = peersReset straps ∧ t.rail = Rail.reset
      ∧ t.sync = SyncUnit.reset
      ∧ t.alert = { s0.alert with headFault := false, raised := false, count := 0 }
      ∧ t.hci.outstanding = none ∧ t.hci.held = none ∧ t.hci.pendingDrop = 0 ∧ t.hci.strays = 0 ∧ t.hci.err = none
      ∧ (s0.run.seq ≠ .idle → s0.run.ending = none ∨ s0.hci.held = some .abandon → t.hci.cable = some .abandon)
      ∧ t.cwc.urgent = [] ∧ t.cwc.plan = [] ∧ t.cwc.outRun = none ∧ t.cwc.outPause = none ∧ t.cwc.outAbort = none
      ∧ t.cwc.badPosts = s0.cwc.badPosts ∧ t.cwc.postCell = s0.cwc.postCell ∧ t.cwc.postHeld = s0.cwc.postHeld
      ∧ t.cwc.attentionHeld = s0.cwc.attentionHeld
      ∧ t.cwc.attention = noticed s0.cwc.attention (heldBlocks s0.cwc ++ [b])
      ∧ t.run = { Run.reset with result := t.run.result }
      ∧ (s0.run.seq = .idle → t.run.result = s0.run.result)
      ∧ (s0.run.seq ≠ .idle → ∃ r, t.run.result = some r ∧ r.cause = s0.run.ending.getD .cardReset
          ∧ r.lastStep = s0.run.current ∧ r.stepsCompleted = s0.run.stepsCompleted ∧ r.alertCount = s0.alert.count)
      ∧ (MemoryCanonical s → QueuesBounded s →
          (∀ x ∈ heldBlocks s0.cwc ++ [b], readArea t (x.offset + 2) = 0)
          ∧ readArea t (b.offset + 1) = Response.ok.code
          ∧ (∀ x ∈ s0.cwc.urgent ++ s0.cwc.plan, x.offset ≠ b.offset → readArea t (x.offset + 1) = Response.cardReset.code)
          ∧ (∀ p, s0.cwc.outRun = some p →
              (∀ x ∈ s0.cwc.outAbort.toList ++ s0.cwc.outPause.toList ++ s0.cwc.urgent ++ s0.cwc.plan ++ [b], x.offset ≠ p.offset) →
              readArea t (p.offset + 1) = (match s0.run.ending with
                | none | some .cardReset => Response.cardReset.code
                | some c => (Response.runEnd c).code))
          ∧ (∀ p, s0.cwc.outAbort = some p →
              (∀ x ∈ s0.cwc.outPause.toList ++ s0.cwc.urgent ++ s0.cwc.plan ++ [b], x.offset ≠ p.offset) →
              readArea t (p.offset + 1) = (match s0.run.ending with
                | none | some .cardReset => Response.cardReset.code
                | some _ => Response.ok.code))
          ∧ (∀ p, s0.cwc.outPause = some p → (∀ x ∈ s0.cwc.urgent ++ s0.cwc.plan ++ [b], x.offset ≠ p.offset) →
              readArea t (p.offset + 1) = (match s0.run.ending with
                | none | some .cardReset => Response.cardReset.code
                | some _ => Response.runEnded.code))
          ∧ (∀ p, s0.cwc.outRun = some p → s0.run.seq ≠ .idle → ResultWritten p t.run.result (heldBlocks s0.cwc ++ [b]) t))

/-- R2, R39, R40, R41, R60, R85, R134, R137, R157, R168, R177, R185, R189: the values after power-on or backplane reset, which are the same;
a card that finds RAIL-FAIL asserted is HALTED at once with its link OFF and its ROLL discarded. The straps and the two line levels
are operands, which is the model's choice (log 5, log 6), and so is that the level read stands beside the drive of a HALTED card until
its own event (log 7). -/
def Obligations.PowerOnValues : Prop :=
  ∀ (straps : Straps) (lines : Lines) (s : State), ∃ t, exec (.powerOnReset straps lines) s = .next t
    ∧ exec (.backplaneReset straps lines) s = .next t
    ∧ (∀ i : Site, t.sites[i] =
        { state := .vacant, bin := 0, busy := false, stats := { min := 0, max := 0, sum := 0, count := 0 }, log := [], cursor := 0
          overflow := 0, failUnits := 0, failBits := 0, badBlocks := [], unitFailed := false })
    ∧ t.store.profile = none ∧ (∀ k, k < 128 → t.store.steps[k]? = some none) ∧ t.store.stopOption = .shutdown
    ∧ (∀ a, readArea t a = 0) ∧ t.cwc.postCell = 0 ∧ t.cwc.postHeld = 0 ∧ t.cwc.attention = 0 ∧ t.cwc.attentionHeld = 0
    ∧ attentionOutput t = false
    ∧ t.cwc.badPosts = 0 ∧ t.cwc.urgent = [] ∧ t.cwc.plan = [] ∧ t.cwc.outRun = none ∧ t.cwc.outPause = none
    ∧ t.cwc.outAbort = none
    ∧ t.run.seq = .idle ∧ t.run.phase = .entry ∧ t.run.current = none ∧ t.run.pass = 0 ∧ t.run.stepsCompleted = 0
    ∧ t.run.passes = 0 ∧ t.run.passSize = 0 ∧ t.run.members = [] ∧ t.run.passDemand = 0
    ∧ t.run.produced = 0 ∧ t.run.issued = 0 ∧ t.run.excluded = 0 ∧ t.run.noSite = 0
    ∧ t.run.dwellRem = 0 ∧ t.run.syncRem = some 0 ∧ t.run.supplyRem = some 0 ∧ t.run.heldPause = false ∧ t.run.heldSyncPass = false
    ∧ t.run.ending = none ∧ t.run.guardRem = 0 ∧ t.run.result = none
    ∧ t.uag = { s.uag with loaded := false, r := 0, v := 0, u := none, ended := false }
    ∧ t.hci.outstanding = none ∧ t.hci.held = none ∧ t.hci.pendingDrop = 0 ∧ t.hci.strays = 0 ∧ t.hci.err = none
    ∧ (∀ i : Site, t.timers.values[i] = 0 ∧ t.timers.running[i] = false) ∧ t.timers.timed = none ∧ t.timers.latch = none
    ∧ t.link.own = straps.station ∧ t.link.ownBudget = max 8 straps.budget.toNat ∧ t.link.effBudget = max 8 straps.budget.toNat
    ∧ t.link.objections = 0 ∧ t.link.attempt = none ∧ t.link.rollWindow = none
    ∧ t.link.st = (if lines.railFail then .off else .rolling)
    ∧ t.link.out = (if lines.railFail then Outgoing.empty else { Outgoing.empty with roll := true })
    ∧ (∀ x : Station, t.peers[x] =
        if x = straps.station then { Peer.absent with present := true, budget := some (max 8 straps.budget.toNat) } else Peer.absent)
    ∧ t.rail.st = .none ∧ t.rail.ownDemand = none ∧ t.rail.seeking = false ∧ t.rail.givingUp = false ∧ t.rail.waiters = []
    ∧ t.sync.ownGroup = none ∧ t.sync.markCount = 0 ∧ t.sync.awaited = none ∧ t.sync.laggards = 0
    ∧ t.alert.halted = lines.railFail ∧ t.alert.headFault = false ∧ t.alert.raised = false ∧ t.alert.count = 0
    ∧ t.alert.level = lines.alert ∧ t.alert.railFail = lines.railFail

/-! ## The head -/

/-- R3, R62: an awaited CONTACT makes each site that is not TRIPPED ACTIVE or VACANT by its bit and leaves TRIPPED ones; then a run that
is ending goes no further, a run with no ACTIVE site ends NO SITES, and another joins its group, if it names one, with MARK mark 0, and
enters its first step. -/
def Obligations.ContactApplied : Prop :=
  ∀ (mask : SiteMask) (d : Nat) (s : State), s.hci.outstanding = some { request := .contactCheck, deadline := d } →
    ∃ u, (∀ i : Site, u.sites[i] =
          if s.sites[i].state = .tripped then s.sites[i]
          else { s.sites[i] with state := if mask.getLsbD i then .active else .vacant })
      ∧ u.hci = { s.hci with outstanding := none } ∧ (u.withHci s.hci).withSites s.sites = s
      ∧ (s.run.ending ≠ none → exec (.contact mask) s = .next (settle u))
      ∧ (s.run.ending = none → (∀ i : Site, s.sites[i].state = .tripped ∨ mask.getLsbD i = false) →
          exec (.contact mask) s = .next (settle (endRun .noSites u)))
      ∧ (s.run.ending = none → s.run.group = none → (∃ i : Site, s.sites[i].state ≠ .tripped ∧ mask.getLsbD i = true) →
          exec (.contact mask) s = .next (settle (u.withRun { s.run with stage := .enter s.run.first })))
      ∧ (∀ g, s.run.ending = none → s.run.group = some g →
          (∃ i : Site, s.sites[i].state ≠ .tripped ∧ mask.getLsbD i = true) → ∃ w, exec (.contact mask) s = .next (settle w)
          ∧ w.run = { s.run with stage := .enter s.run.first } ∧ w.sites = u.sites ∧ w.sync.ownGroup = some g
          ∧ w.sync.markCount = 0 ∧ (linkSends s = true → w.link.out.mark = some (g, 0)))

/-- R10, R19: a reply that is not the one awaited adds one to the stray count and changes nothing else. That a stray RESULT adds one
whatever its entries is the model's choice (log 31). -/
def Obligations.UnawaitedRepliesStray : Prop :=
  ∀ (mask : SiteMask) (entries : List ResultEntry) (s : State),
    ((∀ o, s.hci.outstanding = some o → o.request.kind ≠ .contactCheck) →
      exec (.contact mask) s = .next (s.withHci { s.hci with strays := min 65535 (s.hci.strays + 1) }))
    ∧ ((∀ o, s.hci.outstanding = some o → o.request.kind = .contactCheck ∨ o.request.kind = .compare) →
      exec .accept s = .next (s.withHci { s.hci with strays := min 65535 (s.hci.strays + 1) }))
    ∧ ((∀ o, s.hci.outstanding = some o → o.request.kind ≠ .compare) →
      exec (.result entries) s = .next (s.withHci { s.hci with strays := min 65535 (s.hci.strays + 1) }))

/-- R9, R12, R14, R15: the unit of an OPERATE resolves when its ACCEPT has been taken and no site of its mask is busy, and is awaited until
then, as a COMPARE is until its RESULT. The ACCEPT of an OPERATE is noted in its unit, starts the timer of each named site that is not
TRIPPED at 0 with its busy flag, and leaves the others; the ACCEPT of a DROP or of an ABANDON only makes the HCI idle. What is due then follows (a teardown: TeardownCarriedOut). -/
def Obligations.AcceptTaken : Prop :=
  (∀ (f : Flight) (s : State), s.run.inflight = some f → s.hci.outstanding ≠ none ∨ HciQuiet s →
    (f.kind = .operate true → (∀ i : Site, f.mask.getLsbD i = true → s.sites[i].busy = false) →
      nextAction s = some (s.withRun { s.run with inflight := none }))
    ∧ (f.kind ≠ .operate true ∨ (∃ i : Site, f.mask.getLsbD i = true ∧ s.sites[i].busy = true) →
      s.run.seq = .running → s.run.ending = none → s.run.stage = .visits → settle s = s))
  ∧ (∀ (g : Granule) (size un : Nat) (mask : SiteMask) (data : Option DataPart) (d : Nat) (s : State),
    s.hci.outstanding = some { request := .operate g size un mask data, deadline := d } →
    ∃ u, exec .accept s = .next (settle u) ∧ u.hci = { s.hci with outstanding := none }
      ∧ (∀ i : Site, mask.getLsbD i = true → s.sites[i].state ≠ .tripped →
          u.sites[i] = { s.sites[i] with busy := true } ∧ u.timers.values[i] = 0 ∧ u.timers.running[i] = true)
      ∧ (∀ i : Site, mask.getLsbD i = false ∨ s.sites[i].state = .tripped →
          u.sites[i] = s.sites[i] ∧ u.timers.values[i] = s.timers.values[i] ∧ u.timers.running[i] = s.timers.running[i])
      ∧ u.store = s.store ∧ u.link = s.link ∧ u.peers = s.peers ∧ u.rail = s.rail ∧ u.cwc = s.cwc ∧ u.uag = s.uag
      ∧ (∀ f b, s.run.inflight = some f → f.kind = .operate b →
          u.run = { s.run with inflight := some { f with kind := .operate true } }))
  ∧ (∀ (mask : SiteMask) (d : Nat) (s : State), s.hci.outstanding = some { request := .drop mask, deadline := d } →
    exec .accept s = .next (settle (s.withHci { s.hci with outstanding := none })))
  ∧ (∀ (d : Nat) (s : State), s.hci.outstanding = some { request := .abandon, deadline := d } →
    exec .accept s = .next (settle (s.withHci { s.hci with outstanding := none })))

/-- R13, R102, R103, R105, R106, R107: of the entries of a RESULT, the first that names a site is handed on when the site is in the mask and
not TRIPPED and its count is not 0: it makes the site's COMPARE record, adds its fail bits and enters its block, retiring an ACTIVE
site above the allowance, or at a full set of 64 blocks; every other entry is a stray, and no other account changes. The unit resolves. The
strays are a count that starts in its range (CountsStayInRange). -/
def Obligations.ResultTaken : Prop :=
  ∀ (g : Granule) (size un : Nat) (mask : SiteMask) (data : DataPart) (d : Nat) (u : Flight) (es : List ResultEntry) (s : State),
    s.hci.outstanding = some { request := .compare g size un mask data, deadline := d } → s.run.inflight = some u →
    s.hci.strays ≤ 65535 →
    (exec (.result []) s = .next (settle ((s.withHci { s.hci with outstanding := none }).withRun { s.run with inflight := none })))
    ∧ ∃ t, exec (.result es) s = .next t
      ∧ (∃ w, t = settle w ∧ w.run.inflight = none ∧ w.hci.outstanding = none)
      ∧ t.hci.strays = min 65535 (s.hci.strays + (es.length - (allSites.filter fun i => (handedEntry mask es s i).isSome).length))
      ∧ (∀ i : Site, handedEntry mask es s i = none → SameAccount s.sites[i] t.sites[i])
      ∧ ∀ (i : Site) (e : ResultEntry), handedEntry mask es s i = some e →
        FailureEntered (failRecord u .compare e.failBits.toNat (some e.offset)) s.sites[i] t.sites[i]
        ∧ t.sites[i].failBits = min 4294967295 (s.sites[i].failBits + e.failBits.toNat)
        ∧ (∀ k, blockOf s.profile u.granule u.unit = some k →
          (k ∈ s.sites[i].badBlocks →
            t.sites[i].badBlocks = s.sites[i].badBlocks ∧ (s.sites[i].state = .active → t.sites[i].state ≠ .retired))
          ∧ (k ∉ s.sites[i].badBlocks → s.sites[i].badBlocks.length < 64 →
            (∀ j, j ∈ t.sites[i].badBlocks ↔ j = k ∨ j ∈ s.sites[i].badBlocks)
            ∧ (s.sites[i].state = .active →
                if s.profile.allowance < s.sites[i].badBlocks.length + 1
                then t.sites[i].state = .retired ∧ t.sites[i].bin = verifyBin s else t.sites[i].state ≠ .retired))
          ∧ (k ∉ s.sites[i].badBlocks → 64 ≤ s.sites[i].badBlocks.length →
            t.sites[i].badBlocks = s.sites[i].badBlocks
            ∧ (s.sites[i].state = .active → t.sites[i].state = .retired ∧ t.sites[i].bin = verifyBin s)))

/-- R16, R79, R89, R90, R92, R93: a READY counts a stray for each site it names that is not busy, in every state of the run, and leaves that
site; it stops each busy site it names, and judges it, at the value its timer has reached, which stays below the high limit. The time
since the event before is the model's operand (log 4, log 3), and a failure is recorded only with a unit in flight (log 19). What is
due then follows: the unit in flight is still there, and resolves by AcceptTaken. -/
def Obligations.ReadyJudged : Prop :=
  ∀ (mask : SiteMask) (n : Nat) (s : State), FlagsTogether s → s.hci.strays ≤ 65535 →
    ∃ u, exec (.ready mask n) s = .next (settle u)
      ∧ u.hci.strays = min 65535 (s.hci.strays
          + (allSites.filter fun i : Site => mask.getLsbD i && !s.sites[i].busy).length)
      ∧ u.run.inflight = s.run.inflight
      ∧ (∀ i : Site, mask.getLsbD i = false ∨ s.sites[i].busy = false → u.sites[i] = s.sites[i])
      ∧ ((∀ i : Site, mask.getLsbD i = true → s.sites[i].busy = false) →
          u = (elapse n s).withHci { (elapse n s).hci with strays := u.hci.strays })
      ∧ ∀ (i : Site) (d : TimedStep) (v : Nat), s.timers.timed = some d → mask.getLsbD i = true → s.sites[i].busy = true →
          v = (if s.timers.values[i] + n < d.limits.high then s.timers.values[i] + n else d.limits.high - 1) →
          u.sites[i].busy = false ∧ u.timers.running[i] = false ∧ u.timers.values[i] = v
          ∧ u.sites[i].stats =
              (if s.sites[i].stats.count = 0 then { min := v, max := v, sum := v, count := 1 }
               else { min := min s.sites[i].stats.min v, max := max s.sites[i].stats.max v
                      sum := min 4294967295 (s.sites[i].stats.sum + v), count := min 16777215 (s.sites[i].stats.count + 1) })
          ∧ (d.limits.low ≤ v ∨ s.run.inflight = none → SameAccount s.sites[i] u.sites[i])
          ∧ (∀ f, v < d.limits.low → s.run.inflight = some f → FailureEntered (failRecord f .fast v none) s.sites[i] u.sites[i])
          ∧ (u.sites[i].state, u.sites[i].bin) =
              (if v < d.limits.low ∧ s.sites[i].state = .active ∧ d.action = .retire then (.retired, d.bin)
               else (s.sites[i].state, s.sites[i].bin))

/-- R5, R17: an overcurrent trips a site that is not TRIPPED, gives it the trip bin if it has none and a profile is set, stops its
timer, takes it out of the pending-drop mask, and makes an ALARM record of value 0 if it was in the unit in flight, which it leaves; what is
due then follows, so that a unit with no site busy resolves (AcceptTaken). A TRIPPED site is left as it is. -/
def Obligations.SiteTripped : Prop :=
  ∀ (i : Site) (s : State),
    (s.sites[i].state = .tripped → exec (.alarmSiteOvercurrent i) s = .next s)
    ∧ (s.sites[i].state ≠ .tripped → ∃ u, exec (.alarmSiteOvercurrent i) s = .next (settle u)
      ∧ u.sites[i].busy = false ∧ (∀ j : Site, j ≠ i → u.sites[j].busy = s.sites[j].busy)
      ∧ (s.run.inflight = none → u.run.inflight = none)
      ∧ (∀ f, s.run.inflight = some f → ∃ f', u.run.inflight = some f' ∧ f'.kind = f.kind
          ∧ ∀ j : Site, f'.mask.getLsbD j = (f.mask.getLsbD j && j != i)))
    ∧ (s.sites[i].state ≠ .tripped → ∃ t, exec (.alarmSiteOvercurrent i) s = .next t
      ∧ t.sites[i].state = .tripped ∧ t.sites[i].busy = false ∧ t.timers.running[i] = false
      ∧ t.timers.values[i] = s.timers.values[i] ∧ t.hci.strays = s.hci.strays
      ∧ t.hci.pendingDrop.getLsbD i = false
      ∧ (∀ o, s.hci.outstanding = some o → ∀ j : Site, j ≠ i → t.hci.pendingDrop.getLsbD j = s.hci.pendingDrop.getLsbD j)
      ∧ (∀ m d, s.hci.outstanding = none → s.hci.held = none → t.hci.outstanding = some { request := .drop m, deadline := d } →
          m.getLsbD i = false)
      ∧ (s.sites[i].bin ≠ 0 ∨ s.store.profile = none → t.sites[i].bin = s.sites[i].bin)
      ∧ (∀ pr, s.sites[i].bin = 0 → s.store.profile = some pr → t.sites[i].bin = pr.tripBin)
      ∧ (∀ u, s.run.inflight = some u → u.mask.getLsbD i = true →
          FailureEntered (failRecord u .alarm 0 none) s.sites[i] t.sites[i])
      ∧ ((∀ u, s.run.inflight = some u → u.mask.getLsbD i = false) → SameAccount s.sites[i] t.sites[i])
      ∧ ∀ j : Site, j ≠ i → SameAccount s.sites[j] t.sites[j])

/-- R18: ALARM HEAD-FAULT sets the head-fault latch in every state, so that the card drives ALERT; a run in progress that is not ending ends
HEAD FAULT under either stop option; an outstanding request and its deadline are not disturbed, and ABANDON waits for it; outside a
run only the latch changes. That the level read stays until its own event, while the drive starts, is the model's choice (log 7). -/
def Obligations.HeadFaultTaken : Prop :=
  ∀ s : State, ∃ t, exec .alarmHeadFault s = .next t
    ∧ t.alert = { s.alert with headFault := true } ∧ alertDrive t.alert = true
    ∧ (∀ o, s.hci.outstanding = some o → t.hci.outstanding = some o)
    ∧ (∀ o, s.hci.outstanding = some o → s.run.seq ≠ .idle → s.run.ending = none →
        t.run.ending = some .headFault ∧ t.hci.held = some .abandon)
    ∧ (s.run.seq ≠ .idle → s.run.ending = none → HciQuiet s → t.run.ending = some .headFault ∧ AbandonSent t)
    ∧ (s.run.seq = .idle → HciQuiet s → s.run.inflight = none → t = s.withAlert { s.alert with headFault := true })

/-! ## Deadlines, limits and remaining times -/

/-- R20: a passed deadline fills an empty error record with the request, the reply awaited, and the step and unit in flight, keeps a
filled one, and ends a run that is not ending HEAD LINK. With nothing outstanding no deadline can pass (log 1). -/
def Obligations.DeadlinePassed : Prop :=
  ∀ s : State,
    (s.hci.outstanding = none → exec .replyDeadline s = .next s)
    ∧ ∀ o, s.hci.outstanding = some o → ∃ t, exec .replyDeadline s = .next t
      ∧ (s.hci.err = none → t.hci.err = some
          { request := o.request.kind, awaited := o.request.kind.awaits
            step := if o.request.kind = .contactCheck then none else s.run.current
            rep := s.run.inflight.map (·.rep), unit := s.run.inflight.map (·.unit) })
      ∧ (∀ e, s.hci.err = some e → t.hci.err = some e)
      ∧ t.hci.strays = s.hci.strays ∧ (∀ i : Site, SameAccount s.sites[i] t.sites[i])
      ∧ (s.run.seq ≠ .idle → s.run.ending = none → s.hci.held = none → s.hci.pendingDrop = 0 →
          t.run.ending = some .headLink ∧ AbandonSent t)

/-- R91, R92, R93, R14: a timer that reaches the high limit stops there, its site fails SLOW with that value, is retired under RETIRE if
ACTIVE, and goes out in a DROP at once when the HCI is idle. What is due then follows: the unit in flight is still there, with that
site no longer busy, and resolves by AcceptTaken. -/
def Obligations.HighLimitExpired : Prop :=
  ∀ (i : Site) (d : TimedStep) (f : Flight) (s : State), s.timers.timed = some d → s.timers.running[i] = true →
    s.run.inflight = some f →
    (∃ u, exec (.highLimitExpiry i) s = .next (settle u) ∧ u.run.inflight = some f ∧ u.sites[i].busy = false
      ∧ ∀ j : Site, j ≠ i → u.sites[j].busy = s.sites[j].busy)
    ∧ ∃ t, exec (.highLimitExpiry i) s = .next t
      ∧ t.sites[i].busy = false ∧ t.timers.running[i] = false ∧ t.timers.values[i] = d.limits.high
      ∧ FailureEntered (failRecord f .slow d.limits.high none) s.sites[i] t.sites[i]
      ∧ (s.sites[i].state = .active → d.action = .retire → t.sites[i].state = .retired ∧ t.sites[i].bin = d.bin)
      ∧ (∀ j : Site, j ≠ i → SameAccount s.sites[j] t.sites[j])
      ∧ (s.hci.outstanding = none → ∃ mask : SiteMask,
          t.hci.outstanding = some { request := .drop mask, deadline := 200 } ∧ t.hci.pendingDrop = 0
          ∧ ∀ j : Site, mask.getLsbD j = (s.hci.pendingDrop.getLsbD j || j == i))
      ∧ (∀ o, s.hci.outstanding = some o → ∀ j : Site, t.hci.pendingDrop.getLsbD j = (s.hci.pendingDrop.getLsbD j || j == i))

/-- R66, R69, R70, R81, R126, R163: the ends of the running times. A dwell that ends exits the step; a SYNC timeout records the laggards and
exits the step under PROCEED or ends the run SYNC TIMEOUT under END-RUN; the end of the supply wait gives up the wait and ends the run
SUPPLY WAIT TIMEOUT; the end of the resume guard stops it, and a held PAUSE then takes effect; the end of the roll window makes the
link UP. That an expiry lets the time that remained pass for every clock is the model's choice (log 3), and so is that in a run that
is ending the laggards are recorded and the wait given up with no more effect on the run (log 15), and that a station whose LEAVE has
been handed over waits on for the group of its run (log 35). -/
def Obligations.RunningTimesEnd : Prop :=
  (∀ s : State, s.run.seq = .running → s.run.ending = none → s.run.stage = .dwell →
    ∃ u, exec .dwellExpiry s = .next (settle u) ∧ u.run = { (elapse s.run.dwellRem s).run with
      dwellRem := 0, phase := .exit, stage := .exit } ∧ u.sites = s.sites ∧ u.cwc = s.cwc ∧ u.rail = s.rail)
  ∧ (∀ (time r m : Nat) (g : Group) (s : State), s.run.seq = .running → s.run.stage = .sync →
    s.run.syncRem = some r → s.sync.awaited = some m → s.sync.ownGroup = some g ∨ (s.sync.ownGroup = none ∧ s.run.group = some g) →
    (s.run.ending = none → s.run.record = some (.sync time .proceed) → ∃ u, exec .syncTimeout s = .next (settle u)
      ∧ u.run.phase = .exit ∧ u.run.stage = .exit ∧ u.sync.awaited = none ∧ u.sync.ownGroup = s.sync.ownGroup
      ∧ u.sync.markCount = s.sync.markCount ∧ u.link.out = s.link.out ∧ Laggards s g m u.sync.laggards)
    ∧ (s.run.ending = none → s.run.record = some (.sync time .endRun) → HciQuiet s → ∃ t, exec .syncTimeout s = .next t
      ∧ t.run.ending = some .syncTimeout ∧ AbandonSent t ∧ t.sync.awaited = none ∧ Laggards s g m t.sync.laggards)
    ∧ (s.run.ending ≠ none → ∃ u, exec .syncTimeout s = .next (settle u)
      ∧ u.run = { (elapse r s).run with syncRem := some 0 } ∧ u.sync.awaited = none ∧ u.sync.ownGroup = s.sync.ownGroup
      ∧ Laggards s g m u.sync.laggards))
  ∧ (∀ (r : Nat) (s : State), s.run.seq = .running → s.run.stage = .supply → s.run.supplyRem = some r →
    (s.run.ending = none → HciQuiet s → ∃ t, exec .supplyWaitExpiry s = .next t
      ∧ t.run.ending = some .supplyWaitTimeout ∧ AbandonSent t ∧ t.rail.seeking = false ∧ t.link.out.claim = none
      ∧ t.link.out.wait = none
      ∧ (s.rail.st = .waiting → linkSends s = true → t.link.out.withdraw = true ∨ onLine t.link .withdraw = true))
    ∧ (∀ c, s.run.ending = some c → s.rail.seeking = true → ∃ u, exec .supplyWaitExpiry s = .next (settle u)
      ∧ u.run.ending = some c ∧ u.rail.seeking = false ∧ u.link.out.claim = none ∧ u.link.out.wait = none))
  ∧ (∀ s : State, s.run.guardRem ≠ 0 → s.run.heldPause = false → ∃ t, exec .resumeGuardExpiry s = .next t
      ∧ t.run.guardRem = 0 ∧ t.run.seq = s.run.seq ∧ t.cwc = s.cwc ∧ t.sites = s.sites)
  ∧ (∀ (p : Block) (s : State), s.run.heldPause = true → s.run.seq = .running → s.run.ending = none →
      s.run.stage = .dwell → HciQuiet s → s.run.inflight = none → s.cwc.outPause = some p →
      ∃ u, exec .resumeGuardExpiry s = .next (respond p .ok u) ∧ u.run.seq = .paused ∧ u.run.guardRem = 0
        ∧ u.run.heldPause = false ∧ u.run.resume = some { phase := .dwell, pass := s.run.pass } ∧ u.cwc.outPause = none)
  ∧ (∀ (r : Nat) (s : State), s.link.rollWindow = some r → s.link.st = .rolling → ∃ t, exec .rollWindowExpiry s = .next t
      ∧ t.link.st = .up ∧ t.link.rollWindow = none ∧ t.link.own = s.link.own ∧ t.link.effBudget = s.link.effBudget
      ∧ t.peers = s.peers)

/-! ## The units of a step -/

/-- R44, R45, R46, R47: the unit after a unit is stepped inside the window, up or down; a pass asks for N visits in each of R repeats, each repeat from the base in the same order, and then the sequence
ends; every unit lies in the window of the base. -/
def Obligations.UnitSequence : Prop :=
  (∀ x : Uag, x.ended = false → x.r = 0 → 1 ≤ x.load.count → 1 ≤ x.load.repeats →
    (∀ k, k < x.load.count * x.load.repeats →
      (advanceUag (advances k x)).2 = some ((nextUnit x.load)^[k % x.load.count] x.load.base)
      ∧ (advances (k + 1) x).r = k / x.load.count + 1 ∧ (advances (k + 1) x).v = k % x.load.count + 1)
    ∧ (advanceUag (advances (x.load.count * x.load.repeats) x)).2 = none)
  ∧ (∀ (l : UagLoad) (off : Nat), l.h % 2 ^ l.w = 0 → off < 2 ^ l.w → l.e < 2 ^ l.w →
    (l.dir = .up → nextUnit l (l.h + off) = l.h + (off + l.e) % 2 ^ l.w)
    ∧ (l.dir = .down → nextUnit l (l.h + off) = l.h + (if off < l.e then off + 2 ^ l.w - l.e else off - l.e))
    ∧ l.h ≤ nextUnit l (l.h + off) ∧ nextUnit l (l.h + off) < l.h + 2 ^ l.w)
  ∧ (∀ (l : UagLoad) (n : Nat), l.h = l.base - l.base % 2 ^ l.w →
    l.h ≤ (nextUnit l)^[n] l.base ∧ (nextUnit l)^[n] l.base < l.h + 2 ^ l.w)
  ∧ (∀ (l : UagLoad) (n : Nat), l.h = l.base - l.base % 2 ^ l.w → l.dir = .up →
    (nextUnit l)^[n] l.base = l.h + (l.base % 2 ^ l.w + n * l.e) % 2 ^ l.w)

/-- R64, R139: pass selection takes the first of 1, 2, 4, 8 and 16 whose full-pass demand fits the limit, and none fits exactly when one
site's demand is above it. At step entry the answer becomes the pass plan, and none ends the run SUPPLY RANGE. The members of pass j
are the ACTIVE sites whose place in ascending order lies in the j-th chunk of the pass size. -/
def Obligations.PassesSelected : Prop :=
  (∀ s : State, currentDraw s ≠ 0 →
    (passSelection (activeCount s) (currentDraw s) (currentLimit s) = none → formPassPlan s = endRun .supplyRange s)
    ∧ (∀ m p, passSelection (activeCount s) (currentDraw s) (currentLimit s) = some (m, p) →
      formPassPlan s = s.withRun { s.run with passes := p, passSize := m, members := passChunks s m p }))
  ∧ (∀ (s : State) (m p j : Nat) (i : Site), j < p →
    ((passChunks s m p).length = p
    ∧ (((passChunks s m p).getD j 0).getLsbD i = true ↔ s.sites[i].state = .active
        ∧ j * m ≤ ((activeSites s).filter fun k => k < i).length ∧ ((activeSites s).filter fun k => k < i).length < j * m + m)))
  ∧ ∀ n d limit : Nat, 1 ≤ n → n ≤ 16 → 1 ≤ d →
    (∀ m p, passSelection n d limit = some (m, p) → ∃ k, k ∈ [1, 2, 4, 8, 16]
      ∧ m = (n + k - 1) / k ∧ p = (n + m - 1) / m ∧ (m * d + 24) / 25 ≤ limit ∧ n ≤ p * m
      ∧ ∀ j ∈ [1, 2, 4, 8, 16], j < k → limit < ((n + j - 1) / j * d + 24) / 25)
    ∧ (passSelection n d limit = none ↔ 25 * limit < d)

/-- R24, R25, R49, R51, R52, R53, R55: a visit is EXCLUDED when its step is not a VERIFY and its unit's block lies in an exclusion window, or
for DEVICE when there is a window; a site is in the mask of any other when it is a member of the pass, its state qualifies and its
bad-block set does not hold the block, or for DEVICE is empty. A visit is EXCLUDED first, then NO SITE, then NORMAL; the first two
only count, and a NORMAL one is the unit in flight with its request handed to the HCI. -/
def Obligations.VisitsClassed : Prop :=
  ∀ (un : Nat) (s : State),
    (visitExcluded s un = true ↔ s.uag.load.kind ≠ .verify
      ∧ (match s.uag.load.granule with
        | .page => ∃ w ∈ s.profile.windows, w.1 ≤ un / 2 ^ (s.profile.s + s.profile.b) ∧ un / 2 ^ (s.profile.s + s.profile.b) ≤ w.2
        | .sector => ∃ w ∈ s.profile.windows, w.1 ≤ un / 2 ^ s.profile.b ∧ un / 2 ^ s.profile.b ≤ w.2
        | .block => ∃ w ∈ s.profile.windows, w.1 ≤ un ∧ un ≤ w.2
        | .device => s.profile.windows ≠ []))
    ∧ (∀ (gr : Granule) (i : Site), (visitMask s gr un).getLsbD i = true ↔
      (s.run.members.getD (s.run.pass - 1) 0).getLsbD i = true
      ∧ (s.sites[i].state = .active
        ∨ (s.sites[i].state = .retired ∧ ∃ a data bin, s.run.record = some (.verify a data bin true)))
      ∧ (match gr with
        | .page => un / 2 ^ (s.profile.s + s.profile.b) ∉ s.sites[i].badBlocks
        | .sector => un / 2 ^ s.profile.b ∉ s.sites[i].badBlocks
        | .block => un ∉ s.sites[i].badBlocks
        | .device => s.sites[i].badBlocks = []))
    ∧ (visitExcluded s un = true →
      takeVisit un s = s.withRun { s.run with produced := s.run.produced + 1, excluded := s.run.excluded + 1 })
    ∧ (visitExcluded s un = false → visitMask s s.uag.load.granule un = 0 →
      takeVisit un s = s.withRun { s.run with produced := s.run.produced + 1, noSite := s.run.noSite + 1 })
    ∧ (visitExcluded s un = false → visitMask s s.uag.load.granule un ≠ 0 → HciQuiet s →
      (takeVisit un s).run.produced = s.run.produced + 1 ∧ (takeVisit un s).run.issued = s.run.issued + 1
      ∧ (takeVisit un s).run.excluded = s.run.excluded ∧ (takeVisit un s).run.noSite = s.run.noSite
      ∧ (∃ f, (takeVisit un s).run.inflight = some f ∧ f.unit = un ∧ f.rep = s.uag.r
          ∧ f.mask = visitMask s s.uag.load.granule un)
      ∧ (takeVisit un s).hci.outstanding.map (·.request) = some (visitRequest s un (visitMask s s.uag.load.granule un))
      ∧ ∀ i : Site, (takeVisit un s).sites[i] = { s.sites[i] with unitFailed := false })

/-! ## The link and the rail -/

/-- R117, R118, R119, R120, R121, R122, R123, R126, R127, R131, R149, R154: at a frame start the station begins to send the frame of its set with the lowest kind
code, the payload of STATE and ROLL filled then; the set is unchanged. A lost attempt leaves the line, its count unchanged; an objected one
raises the count, and the eighth makes the link MUTE with nothing pending, and the seeking and a give-up under way ended, the own demand
with a give-up in NONE (R149). RELEASE, WITHDRAW, LEAVE, STATE and ROLL are kept for the next start. That a frame start with nothing to
send, or on a busy line, changes nothing (log 1), that the own demand stands otherwise (log 21), and that the owner of the frame is not
told first (log 32), are the model's choices. In the objection slot the card pulls the line low in ROLLING and UP when one of R120's five
conditions holds of the bytes heard; the five bytes of a frame within its ranges say that frame, and draw no objection. -/
def Obligations.AttemptsMade : Prop :=
  (∀ s : State,
    (linkSends s = false ∨ s.link.attempt ≠ none ∨ s.link.out = Outgoing.empty → exec .frameStart s = .next s)
    ∧ (linkSends s = true → s.link.attempt = none → s.link.out ≠ Outgoing.empty →
      ∃ f, exec .frameStart s = .next (s.withLink { s.link with attempt := some { frame := f, replaced := false } })
        ∧ s.link.out.has f.kind = true
        ∧ (∀ k : FrameKind, s.link.out.has k = true → f.kind.code ≤ k.code)
        ∧ (∀ h b, f = .state h b → h = s.peers[s.link.own].held ∧ b = s.link.ownBudget)
        ∧ (∀ b, f = .roll b → b = s.link.ownBudget)
        ∧ (∀ u, f = .release u → s.link.out.release = some u)
        ∧ (∀ g, f = .leave g → s.link.out.leave = some g)
        ∧ (∀ g k, f = .mark g k → s.link.out.mark = some (g, k))
        ∧ (∀ n, f = .wait n → s.link.out.wait = some n)
        ∧ (∀ u k, f = .claim u k → s.link.out.claim = some (u, k))))
  ∧ (∀ (a : Attempt) (s : State), s.link.attempt = some a →
    (∃ t, exec .arbitrationLost s = .next t ∧ t.link.attempt = none ∧ t.link.objections = s.link.objections
      ∧ t.link.st = s.link.st ∧ t.peers = s.peers
      ∧ ∀ k : FrameKind, k = .release ∨ k = .withdraw ∨ k = .leave ∨ k = .state ∨ k = .roll →
          s.link.out.has k = true → t.link.out.has k = true)
    ∧ (s.link.objections < 7 → ∃ t, exec .frameVoid s = .next t ∧ t.link.attempt = none
      ∧ t.link.objections = s.link.objections + 1 ∧ t.link.st = s.link.st ∧ t.peers = s.peers
      ∧ ∀ k : FrameKind, k = .release ∨ k = .withdraw ∨ k = .leave ∨ k = .state ∨ k = .roll →
          s.link.out.has k = true → t.link.out.has k = true)
    ∧ (7 ≤ s.link.objections → linkSends s = true → ∃ t, exec .frameVoid s = .next t ∧ t.link.st = .mute
      ∧ t.link.objections = 8 ∧ t.link.out = Outgoing.empty ∧ t.link.attempt = none ∧ t.rail.seeking = false
      ∧ t.rail.kept = none ∧ t.rail.st = s.rail.st ∧ t.peers = s.peers
      ∧ (s.run.seq ≠ .idle → s.run.ending = none → HciQuiet s → t.run.ending = some .linkMute ∧ AbandonSent t)
      ∧ (s.run.ending = none → HciQuiet s → t.rail = { s.rail with
          ownDemand := if s.rail.givingUp = true ∧ s.rail.st = .none then none else s.rail.ownDemand
          seeking := false, givingUp := false, kept := none })))
  ∧ (∀ s : State, s.link.attempt = none → exec .frameVoid s = .next (settle s))
  ∧ (∀ s : State,
    (∀ heard : List Byte, heard.length < 5 → objects s heard = linkSends s)
    ∧ (∀ key p1 p2 p3 check : Byte, objects s [key, p1, p2, p3, check] = true ↔
      (s.link.st = .rolling ∨ s.link.st = .up)
      ∧ ((key.toNat + p1.toNat + p2.toNat + p3.toNat + check.toNat) % 256 ≠ 0
        ∨ key.toNat / 16 = 0 ∨ 9 ≤ key.toNat / 16 ∨ 8 ≤ key.toNat % 16
        ∨ ¬ FieldsInRange (key.toNat / 16) p1.toNat p2.toNat p3.toNat)))
  ∧ (∀ (x : Station) (f : Frame), goodFrame f →
    frameHeard (frameBytes x f) = some (x, f) ∧ ∀ s : State, objects s (frameBytes x f) = false)

/-- R132, R142, R143: what a carried RELEASE, CLAIM, WAIT or WITHDRAW does to the sender's entry and to the waiter list, at every station
that takes frames, and nothing to any other entry. -/
def Obligations.RailFramesTallied : Prop :=
  ∀ (x : Station) (n : BitVec 16) (k : Byte) (s : State), linkHears s = true →
    (1 ≤ n.toNat → n.toNat ≤ 1023 → ∃ t, exec (.release x n) s = .next t ∧ FrameLeaves x s t
      ∧ t.peers[x] = { s.peers[x] with present := true, held := s.peers[x].held - n.toNat } ∧ t.rail.waiters = s.rail.waiters)
    ∧ (1 ≤ n.toNat → n.toNat ≤ 1023 → k.toNat ≤ 127 → ∃ t, exec (.claim x n k) s = .next t ∧ FrameLeaves x s t
      ∧ t.peers[x] = { s.peers[x] with present := true, held := min 1023 (s.peers[x].held + n.toNat), need := none }
      ∧ t.rail.waiters = s.rail.waiters.filter (fun y => y != x))
    ∧ (1 ≤ n.toNat → n.toNat ≤ 1023 → ∃ t, exec (.wait x n) s = .next t ∧ FrameLeaves x s t
      ∧ t.peers[x] = { s.peers[x] with present := true, need := some n.toNat }
      ∧ t.rail.waiters = if x ∈ s.rail.waiters then s.rail.waiters else s.rail.waiters ++ [x])
    ∧ (∃ t, exec (.withdraw x) s = .next t ∧ FrameLeaves x s t
      ∧ t.peers[x] = { s.peers[x] with present := true, need := none }
      ∧ t.rail.waiters = s.rail.waiters.filter (fun y => y != x))

/-- R129, R131, R133, R158: what a carried ROLL, STATE, MARK or LEAVE does to the sender's entry, to the waiter list and to the effective
budget, at every station that takes frames, and nothing to any other entry. -/
def Obligations.EntryFramesTaken : Prop :=
  ∀ (x : Station) (s : State), linkHears s = true →
    (∀ b : BitVec 16, b.toNat ≤ 1023 → ∃ t, exec (.roll x b) s = .next t ∧ FrameLeaves x s t
      ∧ t.peers[x] = { present := true, budget := some (max 8 b.toNat), held := 0, need := none, group := none, lastMark := none }
      ∧ t.rail.waiters = s.rail.waiters.filter (fun y => y != x)
      ∧ t.link.effBudget = min s.link.effBudget (max 8 b.toNat))
    ∧ (∀ h b : BitVec 12, h.toNat ≤ 1023 → b.toNat ≤ 1023 → ∃ t, exec (.state x h b) s = .next t ∧ FrameLeaves x s t
      ∧ t.peers[x] = { s.peers[x] with present := true, budget := some (max 8 b.toNat), held := h.toNat }
      ∧ t.rail.waiters = s.rail.waiters ∧ t.link.effBudget = min s.link.effBudget (max 8 b.toNat))
    ∧ (∀ (g : Group) (m : Byte), m.toNat ≤ 128 → ∃ t, exec (.mark x (BitVec.ofNat 8 g) m) s = .next t ∧ FrameLeaves x s t
      ∧ t.peers[x] = { s.peers[x] with present := true, group := some g, lastMark := some m.toNat }
      ∧ t.rail.waiters = s.rail.waiters ∧ t.link.effBudget = s.link.effBudget)
    ∧ (∀ g : Group, ∃ t, exec (.leave x (BitVec.ofNat 8 g)) s = .next t ∧ FrameLeaves x s t
      ∧ t.peers[x] = { s.peers[x] with present := true, group := none, lastMark := none }
      ∧ t.rail.waiters = s.rail.waiters ∧ t.link.effBudget = s.link.effBudget)

/-- R125, R126, R127, R141: an own frame carried moves the rail state as the table gives, clears the objection count and frees the line; the
own ROLL opens the roll window. A frame of any kind with the own number that this station did not send, with nothing of its own on the
line or with an attempt that the frame beats, makes the link MUTE, with the rail state and the objection count as they stood, and a run
ends LINK MUTE (STATE and ROLL may have ended it SUPPLY RANGE before, by the budget they lower, R124 and R152). That a frame equal to
the attempt on the line is the attempt itself is the model's choice (log 16). -/
def Obligations.OwnFramesCarried : Prop :=
  (∀ (r : Bool) (n : BitVec 16) (k : Byte) (s : State), linkSends s = true → 1 ≤ n.toNat → n.toNat ≤ 1023 → k.toNat ≤ 127 →
    (s.link.attempt = some { frame := .wait n.toNat, replaced := r } → ∃ t, exec (.wait s.link.own n) s = .next t
      ∧ t.rail.st = (if s.rail.st = .none then .waiting else s.rail.st) ∧ t.link.objections = 0 ∧ t.link.attempt = none)
    ∧ (s.link.attempt = some { frame := .claim n.toNat k.toNat, replaced := r } → ∃ t, exec (.claim s.link.own n k) s = .next t
      ∧ t.rail.st = .holding ∧ t.link.objections = 0 ∧ t.link.attempt = none)
    ∧ (s.link.attempt = some { frame := .release n.toNat, replaced := r } → ∃ t, exec (.release s.link.own n) s = .next t
      ∧ t.rail.st = (if s.rail.st = .holding then .none else s.rail.st) ∧ t.link.objections = 0 ∧ t.link.attempt = none)
    ∧ (s.link.attempt = some { frame := .withdraw, replaced := r } → ∃ t, exec (.withdraw s.link.own) s = .next t
      ∧ t.rail.st = (if s.rail.st = .waiting then .none else s.rail.st) ∧ t.link.objections = 0 ∧ t.link.attempt = none))
  ∧ (∀ (r : Bool) (b : BitVec 16) (s : State), s.link.st = .rolling → b.toNat ≤ 1023 →
    s.link.attempt = some { frame := .roll b.toNat, replaced := r } → ∃ t, exec (.roll s.link.own b) s = .next t
      ∧ t.link.rollWindow = some 3000 ∧ t.link.st = .rolling)
  ∧ (∀ (c : Instr) (f : Frame) (s : State), frameOf c = some (s.link.own, f) → linkSends s = true →
    (∀ a, s.link.attempt = some a → a.frame ≠ f) → ∃ t, exec c s = .next t
      ∧ t.link.st = .mute ∧ t.link.out = Outgoing.empty ∧ t.link.attempt = none ∧ t.link.rollWindow = none
      ∧ t.link.objections = s.link.objections ∧ t.rail.st = s.rail.st ∧ t.rail.seeking = false ∧ t.rail.kept = none
      ∧ (f.kind ≠ .state → f.kind ≠ .roll → s.run.seq ≠ .idle → s.run.ending = none → HciQuiet s →
          t.run.ending = some .linkMute ∧ AbandonSent t))

/-- R144, R145: the claim rule's condition 4 by the figures, and its action table for a station that is seeking and not giving up: what is
handed over or removed, an attempt on the line with a frame that is replaced so marked, and nothing else of the card. That a pending
CLAIM of other units than the demand is replaced is the model's choice (log 30). -/
def Obligations.ClaimRuleActed : Prop :=
  ∀ (d : Nat) (s : State), s.rail.ownDemand = some d → s.rail.seeking = true → s.rail.givingUp = false → s.link.st = .up →
    (s.rail.st ≠ .holding → (claimRule s d = true ↔ d + tally s + needsAhead s ≤ s.link.effBudget))
    ∧ (s.rail.st = .holding → claimRule s d = false)
    ∧ (claimRule s d = true →
      (s.link.out.claim.map (·.1) ≠ some d → evaluateClaim s = s.withLink { s.link with
        out := { s.link.out with
          claim := some (d, s.run.current.getD 0), wait := if s.rail.st = .none then none else s.link.out.wait }
        attempt := s.link.attempt.map fun a => if a.frame.kind = .claim then { a with replaced := true } else a })
      ∧ (s.link.out.claim.map (·.1) = some d → evaluateClaim s = s.withLink { s.link with
        out := { s.link.out with wait := if s.rail.st = .none then none else s.link.out.wait } }))
    ∧ (claimRule s d = false →
      (s.rail.st = .none → s.link.out.wait = none → evaluateClaim s = s.withLink { s.link with
        out := { s.link.out with claim := none, wait := some d }
        attempt := s.link.attempt.map fun a => if a.frame.kind = .wait then { a with replaced := true } else a })
      ∧ (s.rail.st ≠ .none ∨ s.link.out.wait ≠ none → evaluateClaim s = s.withLink { s.link with
        out := { s.link.out with claim := none } }))

/-- R124, R129, R130, R147, R165: the answers to another station's ROLL: the STATE of every station whose link sends, the MARK of a member
with its own group and mark count, and the WAIT of a WAITING station with its own need. The own ROLL draws no answer, and a MUTE
station gives none. What is due then follows. -/
def Obligations.RollAnswered : Prop :=
  ∀ (x : Station) (b : BitVec 16) (s : State), b.toNat ≤ 1023 →
    (x ≠ s.link.own → linkSends s = true → ∃ u, exec (.roll x b) s = .next (settle u)
      ∧ u.link.out.state = true
      ∧ (∀ g, s.sync.ownGroup = some g → u.link.out.mark = some (g, s.sync.markCount))
      ∧ (s.sync.ownGroup = none → u.link.out.mark = s.link.out.mark)
      ∧ (∀ n, s.rail.st = .waiting → s.peers[s.link.own].need = some n → u.link.out.wait = some n))
    ∧ (∀ r, x = s.link.own → linkSends s = true → s.link.attempt = some { frame := .roll b.toNat, replaced := r } →
      ∃ u, exec (.roll x b) s = .next (settle u) ∧ u.link.out.state = s.link.out.state ∧ u.link.out.mark = s.link.out.mark)
    ∧ (x ≠ s.link.own → s.link.st = .mute → SilentWhenMute s → ∃ t, exec (.roll x b) s = .next t ∧ t.link.out = Outgoing.empty)

/-! ## The sync group -/

/-- R70, R161, R162: the marking of a SYNC step, the passing condition by the peer table, and the report. A station that is no member passes at
once; a member's mark count rises, its MARK is handed over and awaited. The condition holds when the own entry and every other entry of
the group have a last mark of at least the awaited one; then nothing is awaited any more and the step exits while RUNNING, while the
report is held while PAUSING or PAUSED, in a run that is ending too. A frame of another station has it evaluated again. That a RUNNING run
which is ending exits no step (log 15), that a station whose own group became none evaluates on for the group of its run (log 35), and that the sync remaining of a step
reported passed stands (log 34), are the model's choices. -/
def Obligations.SyncStepMarked : Prop :=
  (∀ (g : Group) (m : Nat) (s : State), passingCondition s g m = true ↔
    (s.peers[s.link.own].group = some g ∧ (∃ k, s.peers[s.link.own].lastMark = some k ∧ m ≤ k))
    ∧ ∀ x : Station, s.peers[x].group = some g → ∃ k, s.peers[x].lastMark = some k ∧ m ≤ k)
  ∧ (∀ s : State, s.run.seq = .running → s.run.ending = none → s.run.stage = .sync →
    (s.sync.ownGroup = none → markStep s = s.withRun { s.run with phase := .exit, stage := .exit })
    ∧ (∀ g, s.sync.ownGroup = some g → linkSends s = true → markStep s = evaluateSync
        ((s.withSync { s.sync with
          markCount := s.sync.markCount + 1, awaited := some (s.sync.markCount + 1), markCarried := false }).withLink { s.link with
          out := { s.link.out with mark := some (g, s.sync.markCount + 1) }
          attempt := s.link.attempt.map fun a => if a.frame.kind = .mark then { a with replaced := true } else a })))
  ∧ (∀ s : State,
    (∀ g m, s.sync.ownGroup = some g ∨ (s.sync.ownGroup = none ∧ s.run.group = some g) → s.sync.awaited = some m →
      passingCondition s g m = true →
      (s.run.ending = none → s.run.seq = .running → s.run.stage = .sync → evaluateSync s =
        (s.withSync { s.sync with awaited := none }).withRun { s.run with phase := .exit, stage := .exit })
      ∧ (s.run.seq = .pausing ∨ s.run.seq = .paused → evaluateSync s =
        (s.withSync { s.sync with awaited := none }).withRun { s.run with heldSyncPass := true })
      ∧ (s.run.ending ≠ none → s.run.seq = .running → evaluateSync s = s.withSync { s.sync with awaited := none }))
    ∧ (∀ g m, s.sync.ownGroup = some g ∨ (s.sync.ownGroup = none ∧ s.run.group = some g) → s.sync.awaited = some m →
      passingCondition s g m = false → evaluateSync s = s)
    ∧ ((s.sync.ownGroup = none ∧ s.run.group = none) ∨ s.sync.awaited = none → evaluateSync s = s))
  ∧ (∀ (x : Station) (g : Group) (m k : Nat) (mark : Byte) (s u : State), linkHears s = true → x ≠ s.link.own → mark.toNat ≤ 128 →
    mark.toNat = k → s.sync.ownGroup = some g → s.sync.awaited = some m → s.run.ending = none →
    u = s.withPeers (s.peers.set x { s.peers[x] with present := true, group := some g, lastMark := some k }) →
    (passingCondition u g m = true → s.run.seq = .running → s.run.stage = .sync →
      ∃ w, exec (.mark x (BitVec.ofNat 8 g) mark) s = .next (settle w)
      ∧ w.run = { s.run with phase := .exit, stage := .exit } ∧ w.sync = { s.sync with awaited := none })
    ∧ (passingCondition u g m = true → s.run.seq = .paused →
      ∃ t, exec (.mark x (BitVec.ofNat 8 g) mark) s = .next t ∧ t.run.seq = .paused ∧ t.run.heldSyncPass = true
      ∧ t.sync = { s.sync with awaited := none })
    ∧ (passingCondition u g m = false →
      ∃ w, exec (.mark x (BitVec.ofNat 8 g) mark) s = .next (settle w) ∧ w.run = s.run ∧ w.sync = s.sync))

/-! ## ALERT and RAIL-FAIL -/

/-- R167, R171, R172, R175: a rise of ALERT under IGNORE is counted and under SHUTDOWN ends a run STOPPED; a HALTED card only shows the
level; a fall and a release of RAIL-FAIL change only their levels. That a rise with the level already asserted changes nothing is the
model's choice (log 1). -/
def Obligations.LinesTaken : Prop :=
  ∀ s : State,
    (s.alert.level = false → s.alert.halted = false → s.store.stopOption = .ignore →
      exec .alertRise s = .next (s.withAlert { s.alert with level := true, count := min 255 (s.alert.count + 1) }))
    ∧ (s.alert.level = false → s.alert.halted = false → s.store.stopOption = .shutdown → HciQuiet s →
        (s.run.seq ≠ .idle → s.run.ending = none → ∃ t, exec .alertRise s = .next t
          ∧ t.run.ending = some .stopped ∧ AbandonSent t ∧ t.alert = { s.alert with level := true })
        ∧ (s.run.seq = .idle → s.run.inflight = none →
          exec .alertRise s = .next (s.withAlert { s.alert with level := true })))
    ∧ (s.alert.level = false → s.alert.halted = true → exec .alertRise s = .next (s.withAlert { s.alert with level := true }))
    ∧ (s.alert.level = true → exec .alertRise s = .next s)
    ∧ (alertDrive s.alert = false → exec .alertFall s = .next (s.withAlert { s.alert with level := false }))
    ∧ exec .railFailRelease s = .next (s.withAlert { s.alert with railFail := false })

/-- R15, R74, R128, R155, R175: RAIL-FAIL on a NORMAL card halts it: link OFF with nothing pending, tally and waiter list cleared, rail state
NONE, and a run in progress ended at once under its first end cause with ABANDON sent and no reply awaited; on a HALTED card only
the level changes. That the ALERT level read stays until its own event, while the HALTED card drives the line, is the model's choice
(log 7). -/
def Obligations.RailFailHalts : Prop :=
  ∀ s : State,
    (s.alert.halted = true → exec .railFail s = .next (s.withAlert { s.alert with railFail := true }))
    ∧ (s.alert.halted = false → ∃ t, exec .railFail s = .next t
      ∧ t.alert = { s.alert with halted := true, railFail := true }
      ∧ t.link = { s.link with st := .off, out := Outgoing.empty, attempt := none, rollWindow := none }
      ∧ (∀ x : Station, t.peers[x].held = 0 ∧ t.peers[x].present = s.peers[x].present ∧ t.peers[x].budget = s.peers[x].budget
          ∧ t.peers[x].group = s.peers[x].group ∧ t.peers[x].lastMark = s.peers[x].lastMark)
      ∧ t.rail.waiters = [] ∧ t.rail.st = .none ∧ t.rail.ownDemand = none ∧ t.rail.kept = none ∧ t.rail.seeking = false
      ∧ t.rail.givingUp = false ∧ t.store = s.store
      ∧ (s.run.seq ≠ .idle → t.run.seq = .idle ∧ t.hci.outstanding = none ∧ t.cwc.outRun = none ∧ t.cwc.outPause = none
          ∧ t.cwc.outAbort = none ∧ (∀ i : Site, t.sites[i].busy = false ∧ t.timers.running[i] = false)
          ∧ ∃ r, t.run.result = some r ∧ r.cause = s.run.ending.getD .halted ∧ r.lastStep = s.run.current)
      ∧ (s.run.seq ≠ .idle → s.run.ending = none → t.hci.cable = some .abandon)
      ∧ (s.run.seq = .idle → t.run = s.run ∧ t.sites = s.sites ∧ t.hci = s.hci ∧ t.cwc = s.cwc))

/-! ## What every step keeps -/

/-- Every step keeps the window memory in its canonical form. -/
def Obligations.MemoryStaysCanonical : Prop :=
  ∀ s t : State, MemoryCanonical s → step s = .next t → MemoryCanonical t

/-- R144: every step leaves a pending CLAIM justified: it is for the own demand, the rule's four conditions hold for it by the tally, the
waiter list and the effective budget in force. -/
def Obligations.ClaimsStayJustified : Prop :=
  ∀ s t : State, ClaimJustified s → step s = .next t → ClaimJustified t

/-- R144: when an attempt of a CLAIM begins, the units held by all stations plus the claimed units do not exceed the effective budget,
and what is left meets every station waiting ahead. -/
def Obligations.ClaimFitsBudget : Prop :=
  ∀ (s t : State) (u k : Nat) (r : Bool), ClaimJustified s → s.link.attempt = none → exec .frameStart s = .next t →
    t.link.attempt = some { frame := .claim u k, replaced := r } →
    tally t + u ≤ t.link.effBudget ∧ tally t + u + needsAhead t ≤ t.link.effBudget

/-- R155, R175: a HALTED card stays still through every step: its link OFF with nothing to send, no run, and no rail held or counted. -/
def Obligations.HaltedStaysStill : Prop :=
  ∀ s t : State, HaltedIsStill s → step s = .next t → HaltedIsStill t

/-- R132, R133, R136, R143, R156: every step keeps the peer table, the waiter list and the budgets in their ranges and in agreement. -/
def Obligations.TablesStayInRange : Prop :=
  ∀ s t : State, TablesInRange s → step s = .next t → TablesInRange t

/-- R1, R19, R103, R104, R107, R178, R179, R185: every step keeps the accounts, the counters and the queues in their ranges. -/
def Obligations.CountsStayInRange : Prop :=
  ∀ s t : State, CountsInRange s ∧ QueuesBounded s → step s = .next t → CountsInRange t ∧ QueuesBounded t

/-- R84: every step keeps each site's busy flag and its timer's running flag together. -/
def Obligations.FlagsStayTogether : Prop :=
  ∀ s t : State, FlagsTogether s → step s = .next t → FlagsTogether t

/-- R121, R123, R127, R128: every step keeps a MUTE or OFF link silent, and the objection count at most 8, where 8 means MUTE or OFF. -/
def Obligations.SilentStaysSilent : Prop :=
  ∀ s t : State, SilentWhenMute s → step s = .next t → SilentWhenMute t

/-- R1, R3, R4, R6, R62: every step keeps the ACTIVE sites at bin 0, which BinsStand takes as its premise; with it goes what makes it
so: no site is ACTIVE outside a run, and while a CONTACT reply can still come the run is in its start sequence, with no site ACTIVE and
every site that may become so at bin 0. -/
def Obligations.ActiveSitesStayUnbinned : Prop :=
  ∀ s t : State, ActiveUnbinned s → step s = .next t → ActiveUnbinned t

/-- The machine right after reset meets every invariant. The straps it reads are the model's choice (log 5). -/
def Obligations.ResetMeetsInvariants : Prop :=
  MemoryCanonical State.reset ∧ ClaimJustified State.reset ∧ HaltedIsStill State.reset ∧ TablesInRange State.reset
  ∧ CountsInRange State.reset ∧ QueuesBounded State.reset ∧ FlagsTogether State.reset ∧ SilentWhenMute State.reset
  ∧ ActiveUnbinned State.reset

/-- R8: a bin that is set stands through every command but RUN, CLEAR-RESULTS and the resets, given that ACTIVE sites have bin 0 (R1;
ActiveSitesStayUnbinned). -/
def Obligations.BinsStand : Prop :=
  ∀ (c : Instr) (s t : State) (i : Site), (∀ j : Site, s.sites[j].state = .active → s.sites[j].bin = 0) →
    (∀ straps, c ≠ .cardReset straps) → (∀ straps lines, c ≠ .powerOnReset straps lines ∧ c ≠ .backplaneReset straps lines) →
    c ≠ .run → c ≠ .clearResults → exec c s = .next t → s.sites[i].bin ≠ 0 → t.sites[i].bin = s.sites[i].bin
end

