-- ==== Sys2Proof/Laws/Memory.lean ====
section
/-! SUPPORT. What a store into the block and buffer area does: the canonical form is kept, and one byte reads as stored. -/

namespace Sys2Proof.Machine

/-- A canonical form from an address on is one from every lower address on. -/
theorem Memory.wfFrom_mono {lo hi : Nat} (h : lo ≤ hi) : ∀ {m : List Host.Cell}, Memory.wfFrom hi m = true → Memory.wfFrom lo m = true
  | [], _ => rfl
  | (_, _) :: _, hm => by
    simp only [Memory.wfFrom, Bool.and_eq_true, decide_eq_true_eq] at hm ⊢
    exact ⟨⟨⟨le_trans h hm.1.1.1, hm.1.1.2⟩, hm.1.2⟩, hm.2⟩

/-- A store in the area keeps the canonical form. -/
theorem Memory.wfFrom_memWrite {a : Nat} (v : Byte) (ha : inArea a = true) :
    ∀ {lo : Nat} {m : List Host.Cell}, lo ≤ a → Memory.wfFrom lo m = true → Memory.wfFrom lo (memWrite m a v) = true := by
  intro lo m
  induction m generalizing lo with
  | nil =>
    intro hlo _
    unfold memWrite
    split
    · rfl
    · rename_i hv
      simp only [Memory.wfFrom, Bool.and_eq_true, decide_eq_true_eq, and_true]
      exact ⟨⟨hlo, ha⟩, hv⟩
  | cons c rest ih =>
    obtain ⟨k, w⟩ := c
    intro hlo hm
    have hm' := hm
    simp only [Memory.wfFrom, Bool.and_eq_true, decide_eq_true_eq] at hm
    obtain ⟨⟨⟨hk, hka⟩, hw⟩, hr⟩ := hm
    unfold memWrite
    split
    · rename_i hlt
      split
      · exact hm'
      · rename_i hv
        simp only [Memory.wfFrom, Bool.and_eq_true, decide_eq_true_eq]
        exact ⟨⟨⟨hlo, ha⟩, hv⟩, ⟨⟨by omega, hka⟩, hw⟩, hr⟩
    · split
      · rename_i hlt heq
        subst heq
        split
        · exact Memory.wfFrom_mono (by omega) hr
        · rename_i hv
          simp only [Memory.wfFrom, Bool.and_eq_true, decide_eq_true_eq]
          exact ⟨⟨⟨hlo, ha⟩, hv⟩, hr⟩
      · rename_i hlt hne
        simp only [Memory.wfFrom, Bool.and_eq_true, decide_eq_true_eq]
        exact ⟨⟨⟨hk, hka⟩, hw⟩, ih (by omega) hr⟩

/-- An address below a canonical form reads 0. -/
theorem memRead_below {a : Nat} : ∀ {m : List Host.Cell} {lo : Nat}, a < lo → Memory.wfFrom lo m = true → memRead m a = 0
  | [], _, _, _ => rfl
  | (k, v) :: rest, lo, hlt, hm => by
    simp only [Memory.wfFrom, Bool.and_eq_true, decide_eq_true_eq] at hm
    have hne : k ≠ a := by omega
    simp only [memRead, hne, if_false]
    exact memRead_below (by omega) hm.2

/-- A stored byte reads as it was stored, and every other byte reads as before. -/
theorem memRead_memWrite {lo a : Nat} (v : Byte) (x : Nat) {m : List Host.Cell} (hm : Memory.wfFrom lo m = true) :
    memRead (memWrite m a v) x = if x = a then v else memRead m x := by
  induction m generalizing lo with
  | nil =>
    unfold memWrite
    split
    · rename_i hv
      by_cases hx : x = a
      · rw [if_pos hx, hv]; rfl
      · rw [if_neg hx]
    · by_cases hx : x = a
      · rw [if_pos hx]; simp [memRead, hx]
      · have hne : a ≠ x := fun h => hx h.symm
        rw [if_neg hx]; simp [memRead, hne]
  | cons c rest ih =>
    obtain ⟨k, w⟩ := c
    have hm' := hm
    simp only [Memory.wfFrom, Bool.and_eq_true, decide_eq_true_eq] at hm
    obtain ⟨_, hr⟩ := hm
    unfold memWrite
    split
    · rename_i hlt
      split
      · rename_i hv
        by_cases hx : x = a
        · subst hx
          have hne : k ≠ x := by omega
          simp only [memRead, hne, if_false, if_true, hv]
          exact memRead_below (by omega) hr
        · simp [hx]
      · by_cases hx : x = a
        · simp [memRead, hx]
        · have hne : a ≠ x := fun h => hx h.symm
          simp [memRead, hne, hx]
    · split
      · rename_i hlt heq
        subst heq
        split
        · rename_i hv
          by_cases hx : x = a
          · subst hx
            simp only [if_true, hv]
            exact memRead_below (Nat.lt_succ_self _) hr
          · have hne : a ≠ x := fun h => hx h.symm
            simp [memRead, hne, hx]
        · by_cases hx : x = a
          · simp [memRead, hx]
          · have hne : a ≠ x := fun h => hx h.symm
            simp [memRead, hne, hx]
      · rename_i hlt hne
        simp only [memRead]
        by_cases hk : k = x
        · subst hk
          have : ¬ k = a := fun h => hne h.symm
          simp [this]
        · simp only [hk, if_false]
          exact ih hr

/-- A store keeps the canonical form of the window memory. -/
theorem writeArea_wf (a : Nat) (v : Byte) {s : State} (h : Memory.wf s.cwc.mem = true) :
    Memory.wf (writeArea a v s).cwc.mem = true := by
  unfold writeArea
  split
  · rename_i ha
    exact Memory.wfFrom_memWrite v ha (Nat.zero_le a) h
  · exact h

/-- What an address of the window memory reads after a store. -/
theorem readArea_writeArea (a : Nat) (v : Byte) (x : Nat) {s : State} (h : Memory.wf s.cwc.mem = true) :
    readArea (writeArea a v s) x = if x = a ∧ inArea a = true then v else readArea s x := by
  unfold writeArea
  split
  · rename_i ha
    simp [readArea, memRead_memWrite v x h, ha]
  · rename_i ha
    simp [ha]

/-- Stores of several bytes keep the canonical form. -/
theorem writeBytes_wf : ∀ (a : Nat) (bs : List Byte) {s : State}, Memory.wf s.cwc.mem = true → Memory.wf (writeBytes a bs s).cwc.mem = true
  | _, [], _, h => h
  | a, b :: bs, _, h => writeBytes_wf (a + 1) bs (writeArea_wf a b h)

/-- What an address reads after stores of several bytes. -/
theorem readArea_writeBytes (x : Nat) : ∀ (a : Nat) (bs : List Byte) {s : State}, Memory.wf s.cwc.mem = true →
    readArea (writeBytes a bs s) x = if a ≤ x ∧ x < a + bs.length ∧ inArea x = true then bs.getD (x - a) 0 else readArea s x
  | a, [], s, _ => by simp [writeBytes]; omega
  | a, b :: bs, s, h => by
    rw [writeBytes, readArea_writeBytes x (a + 1) bs (writeArea_wf a b h), readArea_writeArea a b x h]
    by_cases hx : x = a
    · subst hx
      by_cases hi : inArea x = true <;> simp [hi]
    · by_cases hlt : a + 1 ≤ x
      · obtain ⟨d, rfl⟩ : ∃ d, x = a + 1 + d := ⟨x - (a + 1), by omega⟩
        have e1 : a + 1 + d - a = d + 1 := by omega
        have e2 : a + 1 + d - (a + 1) = d := by omega
        have e3 : (a + 1 + d < a + 1 + bs.length) ↔ (a + 1 + d < a + (bs.length + 1)) := by omega
        have e4 : a ≤ a + 1 + d := by omega
        have e5 : a + 1 + d ≠ a := by omega
        simp [e1, e2, e3, e4, e5]
      · have e1 : ¬ a ≤ x := by omega
        have e2 : ¬ a + 1 ≤ x := hlt
        simp [hx, e1, e2]

/-- A store changes nothing but the window memory. -/
theorem writeArea_eq (a : Nat) (v : Byte) (s : State) :
    ∃ m, writeArea a v s = { s with cwc := { s.cwc with mem := m } } := by
  unfold writeArea
  split
  · exact ⟨_, rfl⟩
  · exact ⟨s.cwc.mem, rfl⟩

/-- Stores of several bytes change nothing but the window memory. -/
theorem writeBytes_eq : ∀ (a : Nat) (bs : List Byte) (s : State),
    ∃ m, writeBytes a bs s = { s with cwc := { s.cwc with mem := m } }
  | _, [], s => ⟨s.cwc.mem, rfl⟩
  | a, b :: bs, s => by
    obtain ⟨m, hm⟩ := writeArea_eq a b s
    obtain ⟨m', hm'⟩ := writeBytes_eq (a + 1) bs (writeArea a b s)
    exact ⟨m', by rw [writeBytes, hm', hm]⟩

end Sys2Proof.Machine
end

