-- ==== Sys2Proof/Laws/Completion.lean ====
section
/-! SUPPORT. What completing a block, refusing a block and serving a block can do. -/

namespace Sys2Proof.Machine

/-- Completing a block changes the window memory and the attention count, and nothing else. -/
theorem respond_eq (b : Block) (r : Response) (s : State) :
    respond b r s = { s with cwc := { s.cwc with
      mem := (respond b r s).cwc.mem
      attention := if b.notify = 0 then s.cwc.attention else satAdd 65535 s.cwc.attention 1 } } := by
  obtain ⟨m, hm⟩ := writeArea_eq (b.offset + 1) r.code s
  obtain ⟨m', hm'⟩ := writeArea_eq (b.offset + 2) 0 (writeArea (b.offset + 1) r.code s)
  rw [hm] at hm'
  unfold respond
  rw [hm, hm']
  unfold raiseAttention
  split <;> rfl

/-- The memory after a completion: two bytes stored. -/
theorem respond_mem (b : Block) (r : Response) (s : State) :
    (respond b r s).cwc.mem = (writeArea (b.offset + 2) 0 (writeArea (b.offset + 1) r.code s)).cwc.mem := by
  unfold respond raiseAttention
  split <;> rfl

/-- Completing a block depends on the CWC alone, so it passes over any change of the other blocks. -/
theorem respond_cwc (b : Block) (r : Response) {s t : State} (h : s.cwc = t.cwc) : (respond b r s).cwc = (respond b r t).cwc := by
  have hw : ∀ (a : Nat) (v : Byte) {x y : State}, x.cwc = y.cwc → (writeArea a v x).cwc = (writeArea a v y).cwc := by
    intro a v x y hxy
    unfold writeArea
    split
    · simp only [hxy]
    · exact hxy
  have h2 := hw (b.offset + 2) 0 (hw (b.offset + 1) r.code h)
  unfold respond raiseAttention
  split
  · exact h2
  · simp only [h2]

theorem respond_pending (b : Block) (r : Response) (s : State) : (respond b r s).pending = s.pending := by rw [respond_eq]
theorem respond_store (b : Block) (r : Response) (s : State) : (respond b r s).store = s.store := by rw [respond_eq]
theorem respond_run (b : Block) (r : Response) (s : State) : (respond b r s).run = s.run := by rw [respond_eq]
theorem respond_uag (b : Block) (r : Response) (s : State) : (respond b r s).uag = s.uag := by rw [respond_eq]
theorem respond_hci (b : Block) (r : Response) (s : State) : (respond b r s).hci = s.hci := by rw [respond_eq]
theorem respond_sites (b : Block) (r : Response) (s : State) : (respond b r s).sites = s.sites := by rw [respond_eq]
theorem respond_timers (b : Block) (r : Response) (s : State) : (respond b r s).timers = s.timers := by rw [respond_eq]
theorem respond_link (b : Block) (r : Response) (s : State) : (respond b r s).link = s.link := by rw [respond_eq]
theorem respond_peers (b : Block) (r : Response) (s : State) : (respond b r s).peers = s.peers := by rw [respond_eq]
theorem respond_rail (b : Block) (r : Response) (s : State) : (respond b r s).rail = s.rail := by rw [respond_eq]
theorem respond_sync (b : Block) (r : Response) (s : State) : (respond b r s).sync = s.sync := by rw [respond_eq]
theorem respond_alert (b : Block) (r : Response) (s : State) : (respond b r s).alert = s.alert := by rw [respond_eq]

/-- A completion keeps the canonical form of the window memory. -/
theorem respond_wf (b : Block) (r : Response) {s : State} (h : Memory.wf s.cwc.mem = true) :
    Memory.wf (respond b r s).cwc.mem = true := by
  rw [respond_mem]
  exact writeArea_wf _ _ (writeArea_wf _ _ h)

/-- Stores of a record keep the canonical form, and so does the completion after them. -/
theorem respondWith_wf (b : Block) (r : Response) (data : List Byte) {s : State} (h : Memory.wf s.cwc.mem = true) :
    Memory.wf (respondWith b r data s).cwc.mem = true := respond_wf b r (writeBytes_wf _ _ h)

/-- A command refused by its table: the first condition that holds decides the response. -/
theorem guarded_refused {b : Block} {conds : List (Bool × Response)} {act : State → State} {s : State} {r : Response}
    (h : firstRefusal conds = some r) : guarded b conds act s = respond b r s := by
  unfold guarded
  rw [h]

/-- A command that no condition of its table refuses. -/
theorem guarded_accepted {b : Block} {conds : List (Bool × Response)} {act : State → State} {s : State}
    (h : firstRefusal conds = none) : guarded b conds act s = act s := by
  unfold guarded
  rw [h]

/-- The block taken leaves the rest of the card as it was. -/
theorem takeBlock_eq {s s0 : State} {b : Block} (h : takeBlock s = some (b, s0)) :
    s0 = { s with cwc := { s.cwc with urgent := s0.cwc.urgent, plan := s0.cwc.plan } } := by
  unfold takeBlock at h
  split at h <;> simp only [Option.some.injEq, Prod.mk.injEq, reduceCtorEq] at h
  · obtain ⟨_, rfl⟩ := h; rfl
  · obtain ⟨_, rfl⟩ := h; rfl

/-- Serving a block that passes the window checks hands it to its owner. -/
theorem serve_served {c : Cmd} {owner : Block → State → State} {b : Block} {s s0 : State} (h : takeBlock s = some (b, s0))
    (hc : cmdOfCode b.code = some c) (hw : windowChecks c b s0 = none) : serve c owner s = owner b s0 := by
  simp only [serve, h, hc, hw, if_true]

/-- Serving a block that fails a window check completes it with that check's response. -/
theorem serve_refused {c : Cmd} {owner : Block → State → State} {b : Block} {s s0 : State} {r : Response}
    (h : takeBlock s = some (b, s0)) (hc : cmdOfCode b.code = some c) (hw : windowChecks c b s0 = some r) :
    serve c owner s = respond b r s0 := by
  simp only [serve, h, hc, hw, if_true]

/-- What serving can do at all: nothing, a refusal of the window, or the owner's work. -/
theorem serve_cases (c : Cmd) (owner : Block → State → State) (s : State) :
    serve c owner s = s
    ∨ ∃ b s0, takeBlock s = some (b, s0) ∧ cmdOfCode b.code = some c
        ∧ ((∃ r, windowChecks c b s0 = some r ∧ serve c owner s = respond b r s0)
          ∨ (windowChecks c b s0 = none ∧ serve c owner s = owner b s0)) := by
  unfold serve
  cases htb : takeBlock s with
  | none => exact Or.inl rfl
  | some p =>
    obtain ⟨b, s0⟩ := p
    by_cases hc : cmdOfCode b.code = some c
    · right
      refine ⟨b, s0, rfl, hc, ?_⟩
      simp only [hc, if_true]
      cases hw : windowChecks c b s0 with
      | none => exact Or.inr ⟨rfl, rfl⟩
      | some r => exact Or.inl ⟨r, rfl, rfl⟩
    · left
      simp only [hc, if_false]

end Sys2Proof.Machine
end

