-- ==== Sys2Proof/Laws/Tables.lean ====
section
/-! SUPPORT. What a place of a fixed table holds after an update, and which sites a mask names. -/

namespace Sys2Proof.Machine

/-- The place `i` of a tabulated table. -/
@[simp] theorem tabulate_get {α : Type} {n : Nat} (f : Fin n → α) (i : Fin n) : (tabulate n f)[i] = f i := by
  simp [tabulate]

/-- A place after one place was set. -/
theorem vector_set_get {α : Type} {n : Nat} (v : Vector α n) (i j : Fin n) (x : α) :
    (v.set i x)[j] = if j = i then x else v[j] := by
  by_cases h : j = i
  · subst h; simp
  · have hne : (i : Nat) ≠ j := fun e => h (Fin.ext e.symm)
    simp [h, Vector.getElem_set_ne, hne]

/-- Which sites a mask built from a condition names. -/
@[simp] theorem inMask_maskOf (f : Site → Bool) (i : Site) : inMask (maskOf f) i = f i := by
  have h : (BitVec.ofBoolListLE (List.ofFn f)).getLsbD i = f i := by
    rw [BitVec.getLsbD_ofBoolListLE, List.getD_eq_getElem _ _ (by simp)]
    exact List.getElem_ofFn _
  simp only [inMask, maskOf, BitVec.getLsbD_setWidth, h, i.isLt, decide_true, Bool.true_and]

/-- A site put into a mask. -/
theorem inMask_addSite (m : SiteMask) (i j : Site) : inMask (addSite m i) j = (inMask m j || j == i) := by
  simp [addSite]

/-- A site taken out of a mask. -/
theorem inMask_dropSite (m : SiteMask) (i j : Site) : inMask (dropSite m i) j = (inMask m j && j != i) := by
  simp [dropSite]

/-- One site record after an update of a site. -/
theorem updSite_get (i j : Site) (f : SiteRec → SiteRec) (s : State) :
    (updSite i f s).sites[j] = if j = i then f s.sites[i] else s.sites[j] := by
  unfold updSite
  exact vector_set_get _ _ _ _

/-- One site record after an update of all sites. -/
@[simp] theorem mapSites_get (j : Site) (f : SiteRec → SiteRec) (s : State) : (mapSites f s).sites[j] = f s.sites[j] :=
  tabulate_get _ _

/-- One peer-table entry after an update of an entry. -/
theorem updPeer_get (x y : Station) (f : Peer → Peer) (s : State) :
    (updPeer x f s).peers[y] = if y = x then f s.peers[x] else s.peers[y] := by
  unfold updPeer
  exact vector_set_get _ _ _ _

/-- One peer-table entry after an update of all entries. -/
@[simp] theorem mapPeers_get (y : Station) (f : Peer → Peer) (s : State) : (mapPeers f s).peers[y] = f s.peers[y] :=
  tabulate_get _ _

/-- The byte values of saturating sums. -/
theorem satAdd_le (cap a b : Nat) : satAdd cap a b ≤ cap := Nat.min_le_left _ _

end Sys2Proof.Machine
end

