-- ==== Sys2Proof/Laws/Flags.lean ====
section
/-! SUPPORT. What the small views and clocks of the card say: marks and laggards, the attention output, a cancelled DROP, the recorded resume
point, and the passing of time. -/

namespace Sys2Proof.Machine

/-- An entry shows a group with a last mark of at least m. -/
theorem atMark_iff (s : State) (x : Station) (g : Group) (m : Nat) :
    atMark s x g m = true ↔ s.peers[x].group = some g ∧ ∃ k, s.peers[x].lastMark = some k ∧ m ≤ k := by
  unfold atMark
  cases s.peers[x].lastMark <;> simp

/-- Which stations the laggard mask names (R163). -/
theorem laggardMask_get (s : State) (g : Group) (m : Nat) (x : Station) :
    (laggardMask s g m).getLsbD x =
      ((s.peers[x].group == some g && !atMark s x g m) || (x == s.link.own && !s.sync.markCarried)) := by
  unfold laggardMask
  rw [BitVec.getLsbD_setWidth, BitVec.getLsbD_ofBoolListLE, List.getD_eq_getElem _ _ (by simp), List.getElem_ofFn]
  simp

/-- A member waits in its own group (R161). -/
theorem waitGroup_of_member {s : State} {g : Group} (h : s.sync.ownGroup = some g) : waitGroup s = some g := by simp [waitGroup, h]

/-- A station that has left its group still waits in the group of its run (R164). -/
theorem waitGroup_of_left {s : State} (h : s.sync.ownGroup = none) : waitGroup s = s.run.group := by simp [waitGroup, h]

/-- The carrying of an own frame touches the Sync Unit's note of its own MARK alone (R163). -/
theorem ownMarkCarried_sync (f : Frame) (s : State) :
    (ownMarkCarried f s).withSync s.sync = s ∧
    (ownMarkCarried f s).sync = { s.sync with markCarried := (ownMarkCarried f s).sync.markCarried } := by
  unfold ownMarkCarried
  split
  · split <;> exact ⟨rfl, rfl⟩
  · exact ⟨rfl, rfl⟩

/-- The own MARK for the awaited mark is noted as carried (R163). -/
theorem ownMarkCarried_awaited {s : State} {m : Nat} (g : Group) (h : s.sync.awaited = some m) :
    (ownMarkCarried (.mark g m) s).sync.markCarried = true := by simp [ownMarkCarried, h]

/-- Going MUTE keeps the rail state and the waiter list (R154). -/
theorem Rail.muted_keeps (r : Rail) : r.muted.st = r.st ∧ r.muted.waiters = r.waiters := ⟨rfl, rfl⟩

/-- The own demand of a station gone MUTE: none after a give-up in NONE, and otherwise as it was (R149, R154). -/
theorem Rail.muted_ownDemand (r : Rail) :
    r.muted.ownDemand = if r.givingUp = true ∧ r.st = .none then none else r.ownDemand := by simp [Rail.muted]

/-- A card that sends frames objects exactly to bytes that say no frame, and a MUTE or OFF card never objects (R120). -/
theorem objects_iff (s : State) (heard : List Byte) :
    objects s heard = true ↔ linkSends s = true ∧ frameHeard heard = none := by simp [objects]

/-- A frame that ends before its check byte says no frame (R120, condition 5). -/
theorem frameHeard_short {heard : List Byte} (h : heard.length < 5) : frameHeard heard = none := by
  unfold frameHeard
  split
  · simp at h
  · rfl

/-- Every code names the kind that has it (R118). -/
theorem frameKindOf_code (k : FrameKind) : frameKindOf k.code = some k := by cases k <;> rfl

/-- The attention output is asserted exactly while the attention count is above 0 (R185). -/
theorem attentionOutput_iff (s : State) : attentionOutput s = true ↔ 0 < s.cwc.attention := decide_eq_true_iff

/-- A site whose DROP is cancelled is the only one that leaves the pending-drop mask (R17). -/
theorem cancelDrop_get (i j : Site) (s : State) :
    inMask (cancelDrop i s).hci.pendingDrop j = (inMask s.hci.pendingDrop j && j != i) := inMask_dropSite _ _ _

/-- Recording the resume point changes no other field of the run (R59). -/
theorem recordResume_run (s : State) : (recordResume s).run = { s.run with resume := resumePoint s } := rfl

/-- A timer that has not passed the high limit does not pass it as time goes by (R91). -/
theorem timerAfter_le {high v : Nat} (n : Nat) (h : v ≤ high) : timerAfter high v n ≤ high := by
  unfold timerAfter
  split <;> omega

/-- A timer short of the high limit after n ticks has risen by n (R87). -/
theorem timerAfter_of_lt {high v n : Nat} (h : v + n < high) : timerAfter high v n = v + n := by
  unfold timerAfter
  rw [if_pos (by omega)]
  omega

@[simp] theorem elapse_pending (n : Nat) (s : State) : (elapse n s).pending = s.pending := rfl
@[simp] theorem elapse_cwc (n : Nat) (s : State) : (elapse n s).cwc = s.cwc := rfl
@[simp] theorem elapse_store (n : Nat) (s : State) : (elapse n s).store = s.store := rfl
@[simp] theorem elapse_uag (n : Nat) (s : State) : (elapse n s).uag = s.uag := rfl
@[simp] theorem elapse_sites (n : Nat) (s : State) : (elapse n s).sites = s.sites := rfl
@[simp] theorem elapse_peers (n : Nat) (s : State) : (elapse n s).peers = s.peers := rfl
@[simp] theorem elapse_rail (n : Nat) (s : State) : (elapse n s).rail = s.rail := rfl
@[simp] theorem elapse_sync (n : Nat) (s : State) : (elapse n s).sync = s.sync := rfl
@[simp] theorem elapse_alert (n : Nat) (s : State) : (elapse n s).alert = s.alert := rfl

/-- The value of each timer after n ticks (R87). -/
theorem elapse_values (n : Nat) (s : State) (i : Site) : (elapse n s).timers.values[i] =
    match s.timers.timed with
    | some t => if s.timers.running[i] then timerAfter t.limits.high s.timers.values[i] n else s.timers.values[i]
    | none => s.timers.values[i] := by
  unfold elapse
  cases s.timers.timed with
  | none => rfl
  | some t => exact tabulate_get _ _

end Sys2Proof.Machine
end

