-- ==== Sys2Proof/Laws/Settle.lean ====
section
/-! SUPPORT. How the card's own actions run to rest: what every action keeps, settling keeps. -/

namespace Sys2Proof.Machine

/-- What every own action keeps, a bounded number of them keeps. -/
theorem settleFor_keeps {P : State → Prop} (h : ∀ s t, nextAction s = some t → P s → P t) :
    ∀ (fuel : Nat) (s : State), P s → P (settleFor fuel s)
  | 0, _, hs => hs
  | fuel + 1, s, hs => by
    unfold settleFor
    cases hn : nextAction s with
    | none => exact hs
    | some t => exact settleFor_keeps h fuel t (h s t hn hs)

/-- What every own action keeps, settling keeps. -/
theorem settle_keeps {P : State → Prop} (h : ∀ s t, nextAction s = some t → P s → P t) (s : State) (hs : P s) : P (settle s) :=
  settleFor_keeps h settleFuel s hs

/-- A card with nothing due stays as it is. -/
theorem settleFor_rest {s : State} (h : nextAction s = none) : ∀ fuel : Nat, settleFor fuel s = s
  | 0 => rfl
  | fuel + 1 => by unfold settleFor; rw [h]

/-- A card with nothing due is settled. -/
theorem settle_rest {s : State} (h : nextAction s = none) : settle s = s := settleFor_rest h settleFuel

/-- One action that leaves nothing due settles the card. -/
theorem settle_once {s t : State} (h : nextAction s = some t) (ht : nextAction t = none) : settle s = t := by
  have hf : settleFuel = (2 ^ 37 - 1) + 1 := by decide
  unfold settle
  rw [hf]
  unfold settleFor
  rw [h]
  exact settleFor_rest ht _

/-- What the next action can be: the HCI sends, the unit in flight resolves, or the sequencer goes on. -/
theorem nextAction_cases {s t : State} (h : nextAction s = some t) :
    hciDue s = some t ∨ (hciDue s = none ∧ unitDue s = some t) ∨ (hciDue s = none ∧ unitDue s = none ∧ sequencerDue s = some t) := by
  unfold nextAction at h
  cases hh : hciDue s with
  | some x => rw [hh] at h; exact Or.inl h
  | none =>
    rw [hh] at h
    cases hu : unitDue s with
    | some x => rw [hu] at h; exact Or.inr (Or.inl ⟨rfl, h⟩)
    | none => rw [hu] at h; exact Or.inr (Or.inr ⟨rfl, rfl, h⟩)

/-- Nothing is due when the HCI, the unit in flight and the sequencer have nothing. -/
theorem nextAction_none {s : State} (hh : hciDue s = none) (hu : unitDue s = none) (hq : sequencerDue s = none) :
    nextAction s = none := by
  unfold nextAction
  rw [hh, hu, hq]

/-- A HCI with a request outstanding has nothing to send. -/
theorem hciDue_awaiting {s : State} {o : Outstanding} (h : s.hci.outstanding = some o) : hciDue s = none := by
  unfold hciDue
  rw [h]

/-- A HCI that holds nothing has nothing to send. -/
theorem hciDue_empty {s : State} (hh : s.hci.held = none) (hd : s.hci.pendingDrop = 0) : hciDue s = none := by
  unfold hciDue
  cases s.hci.outstanding with
  | some o => rfl
  | none => simp only [hd, hh, ne_eq, not_true_eq_false, if_false]

/-- No unit is due while none is in flight. -/
theorem unitDue_none {s : State} (h : s.run.inflight = none) : unitDue s = none := by
  unfold unitDue
  rw [h]

/-- An IDLE sequencer has nothing to do. -/
theorem sequencerDue_idle {s : State} (h : s.run.seq = .idle) : sequencerDue s = none := by
  unfold sequencerDue
  rw [h]

end Sys2Proof.Machine
end

