-- ==== Sys2Proof/Laws/Leaves.lean ====
section
/-! SUPPORT. What the card's own actions leave as it was: one relation, kept by every shared operation of the run, the head, the rail share and
the outgoing set, and so by settling. -/

namespace Sys2Proof.Machine

/-- A site's account is its own. -/
theorem SameAccount.refl (x : SiteRec) : SameAccount x x := ⟨rfl, rfl, rfl, rfl, rfl, rfl⟩

/-- Two steps that leave an account leave it together. -/
theorem SameAccount.trans {x y z : SiteRec} (h : SameAccount x y) (h' : SameAccount y z) : SameAccount x z :=
  ⟨h.1.trans h'.1, h.2.1.trans h'.2.1, h.2.2.1.trans h'.2.2.1, h.2.2.2.1.trans h'.2.2.2.1, h.2.2.2.2.1.trans h'.2.2.2.2.1,
    h.2.2.2.2.2.trans h'.2.2.2.2.2⟩

/-- What an own action leaves: the queue, the plan, the peer table, the lines, the rail state and the waiter list, the link's standing, the
stray count and the error record, the block queues and cells, the timer values and the latch, every account, and the state and
bin of every site that is not ACTIVE. It starts no timer, keeps flags together and memory canonical. -/
structure Leaves (s t : State) : Prop where
  pending : t.pending = s.pending
  store : t.store = s.store
  peers : t.peers = s.peers
  alert : t.alert = s.alert
  railSt : t.rail.st = s.rail.st
  waiters : t.rail.waiters = s.rail.waiters
  own : t.link.own = s.link.own
  ownBudget : t.link.ownBudget = s.link.ownBudget
  linkSt : t.link.st = s.link.st
  rollWindow : t.link.rollWindow = s.link.rollWindow
  objections : t.link.objections = s.link.objections
  effBudget : t.link.effBudget = s.link.effBudget
  strays : t.hci.strays = s.hci.strays
  err : t.hci.err = s.hci.err
  urgent : t.cwc.urgent = s.cwc.urgent
  plan : t.cwc.plan = s.cwc.plan
  postCell : t.cwc.postCell = s.cwc.postCell
  postHeld : t.cwc.postHeld = s.cwc.postHeld
  attentionHeld : t.cwc.attentionHeld = s.cwc.attentionHeld
  badPosts : t.cwc.badPosts = s.cwc.badPosts
  values : t.timers.values = s.timers.values
  latch : t.timers.latch = s.timers.latch
  account : ∀ i : Site, SameAccount s.sites[i] t.sites[i]
  site : ∀ i : Site, s.sites[i].state ≠ .active → t.sites[i].state = s.sites[i].state ∧ t.sites[i].bin = s.sites[i].bin
  busy : ∀ i : Site, t.sites[i].busy = true → s.sites[i].busy = true
  flags : FlagsTogether s → FlagsTogether t
  memory : MemoryCanonical s → MemoryCanonical t

/-- Nothing changed. -/
theorem Leaves.refl (s : State) : Leaves s s := by
  constructor <;> intros <;> first | rfl | assumption | exact SameAccount.refl _ | exact ⟨rfl, rfl⟩

/-- One action after another. -/
theorem Leaves.trans {s t u : State} (h : Leaves s t) (h' : Leaves t u) : Leaves s u where
  pending := h'.pending.trans h.pending
  store := h'.store.trans h.store
  peers := h'.peers.trans h.peers
  alert := h'.alert.trans h.alert
  railSt := h'.railSt.trans h.railSt
  waiters := h'.waiters.trans h.waiters
  own := h'.own.trans h.own
  ownBudget := h'.ownBudget.trans h.ownBudget
  linkSt := h'.linkSt.trans h.linkSt
  rollWindow := h'.rollWindow.trans h.rollWindow
  objections := h'.objections.trans h.objections
  effBudget := h'.effBudget.trans h.effBudget
  strays := h'.strays.trans h.strays
  err := h'.err.trans h.err
  urgent := h'.urgent.trans h.urgent
  plan := h'.plan.trans h.plan
  postCell := h'.postCell.trans h.postCell
  postHeld := h'.postHeld.trans h.postHeld
  attentionHeld := h'.attentionHeld.trans h.attentionHeld
  badPosts := h'.badPosts.trans h.badPosts
  values := h'.values.trans h.values
  latch := h'.latch.trans h.latch
  account := fun i => (h.account i).trans (h'.account i)
  site := fun i hi =>
    have a := h.site i hi
    have b := h'.site i (a.1 ▸ hi)
    ⟨b.1.trans a.1, b.2.trans a.2⟩
  busy := fun i hi => h.busy i (h'.busy i hi)
  flags := fun hf => h'.flags (h.flags hf)
  memory := fun hm => h'.memory (h.memory hm)

/-- One action after another, the last one first. -/
theorem Leaves.after {s t u : State} (h' : Leaves t u) (h : Leaves s t) : Leaves s u := h.trans h'

/-! ## Single changes -/

/-- A change of the run alone. -/
theorem leaves_run (x : Run) (s : State) : Leaves s { s with run := x } := by
  constructor <;> intros <;> first | rfl | assumption | exact SameAccount.refl _ | exact ⟨rfl, rfl⟩

/-- A change of the UAG alone. -/
theorem leaves_uag (x : Uag) (s : State) : Leaves s { s with uag := x } := by
  constructor <;> intros <;> first | rfl | assumption | exact SameAccount.refl _ | exact ⟨rfl, rfl⟩

/-- A change of the Sync Unit alone. -/
theorem leaves_sync (x : SyncUnit) (s : State) : Leaves s { s with sync := x } := by
  constructor <;> intros <;> first | rfl | assumption | exact SameAccount.refl _ | exact ⟨rfl, rfl⟩

/-- A change of the HCI that keeps the stray count and the error record. -/
theorem leaves_hci (x : Hci) (s : State) (h : x.strays = s.hci.strays) (he : x.err = s.hci.err) : Leaves s { s with hci := x } := by
  constructor <;> intros <;> first | exact h | exact he | rfl | assumption | exact SameAccount.refl _ | exact ⟨rfl, rfl⟩

/-- A change of the timed step alone. -/
theorem leaves_timed (x : Option TimedStep) (s : State) : Leaves s { s with timers := { s.timers with timed := x } } := by
  constructor <;> intros <;> first | rfl | assumption | exact SameAccount.refl _ | exact ⟨rfl, rfl⟩

/-- A change of the outgoing set and of the attempt on the line. -/
theorem leaves_out (x : Outgoing) (a : Option Attempt) (s : State) :
    Leaves s { s with link := { s.link with out := x, attempt := a } } := by
  constructor <;> intros <;> first | rfl | assumption | exact SameAccount.refl _ | exact ⟨rfl, rfl⟩

/-- A change of the rail share that keeps the rail state and the waiter list. -/
theorem leaves_rail (x : Rail) (s : State) (h : x.st = s.rail.st) (hw : x.waiters = s.rail.waiters) :
    Leaves s { s with rail := x } := by
  constructor <;> intros <;> first | exact h | exact hw | rfl | assumption | exact SameAccount.refl _ | exact ⟨rfl, rfl⟩

/-- The outstanding blocks set or cleared. -/
theorem leaves_outstanding (r p a : Option Block) (s : State) :
    Leaves s { s with cwc := { s.cwc with outRun := r, outPause := p, outAbort := a } } := by
  constructor <;> intros <;> first | rfl | assumption | exact SameAccount.refl _ | exact ⟨rfl, rfl⟩

/-- A change of every site record that keeps accounts, busy flags, and the state and bin of sites that are not ACTIVE. -/
theorem leaves_mapSites (f : SiteRec → SiteRec) (s : State) (ha : ∀ x, SameAccount x (f x)) (hb : ∀ x, (f x).busy = x.busy)
    (hs : ∀ x, x.state ≠ .active → (f x).state = x.state ∧ (f x).bin = x.bin) : Leaves s (mapSites f s) where
  pending := rfl
  store := rfl
  peers := rfl
  alert := rfl
  railSt := rfl
  waiters := rfl
  own := rfl
  ownBudget := rfl
  linkSt := rfl
  rollWindow := rfl
  objections := rfl
  effBudget := rfl
  strays := rfl
  err := rfl
  urgent := rfl
  plan := rfl
  postCell := rfl
  postHeld := rfl
  attentionHeld := rfl
  badPosts := rfl
  values := rfl
  latch := rfl
  account := fun i => by rw [mapSites_get]; exact ha _
  site := fun i hi => by rw [mapSites_get]; exact hs _ hi
  busy := fun i hi => by rw [mapSites_get, hb] at hi; exact hi
  flags := fun hf i => by rw [mapSites_get, hb]; exact hf i
  memory := id

/-- One site record after every timer was stopped. -/
@[simp] theorem stopAllTimers_get (i : Site) (s : State) :
    (stopAllTimers s).sites[i] = { s.sites[i] with busy := false } := tabulate_get _ _

/-- No timer runs after every timer was stopped. -/
@[simp] theorem stopAllTimers_running (i : Site) (s : State) : (stopAllTimers s).timers.running[i] = false := tabulate_get _ _

/-- Every timer stopped. -/
theorem leaves_stopAllTimers (s : State) : Leaves s (stopAllTimers s) where
  pending := rfl
  store := rfl
  peers := rfl
  alert := rfl
  railSt := rfl
  waiters := rfl
  own := rfl
  ownBudget := rfl
  linkSt := rfl
  rollWindow := rfl
  objections := rfl
  effBudget := rfl
  strays := rfl
  err := rfl
  urgent := rfl
  plan := rfl
  postCell := rfl
  postHeld := rfl
  attentionHeld := rfl
  badPosts := rfl
  values := rfl
  latch := rfl
  account := fun i => by rw [stopAllTimers_get]; exact ⟨rfl, rfl, rfl, rfl, rfl, rfl⟩
  site := fun i _ => by rw [stopAllTimers_get]; exact ⟨rfl, rfl⟩
  busy := fun i hi => by rw [stopAllTimers_get] at hi; cases hi
  flags := fun _ i => by rw [stopAllTimers_get, stopAllTimers_running]
  memory := id

/-- A block completed. -/
theorem leaves_respond (b : Block) (r : Response) (s : State) : Leaves s (respond b r s) := by
  have h := respond_eq b r s
  constructor <;> intros <;>
    first
      | (rw [h]; done)
      | (rw [h]; assumption)
      | (rw [h]; exact SameAccount.refl _)
      | (rw [h]; exact ⟨rfl, rfl⟩)
      | (rename_i hb; rw [h] at hb; exact hb)
      | (rename_i hm; exact respond_wf b r hm)

/-! ## The head and the end of a run -/

/-- The HCI sends a request. -/
theorem leaves_sendRequest (r : Request) (s : State) : Leaves s (sendRequest r s) := leaves_hci _ _ rfl rfl

/-- The HCI returns to IDLE. -/
theorem leaves_hciIdle (s : State) : Leaves s (hciIdle s) := leaves_hci _ _ rfl rfl

/-- The effects of an ABANDON. -/
theorem leaves_abandonEffects (s : State) : Leaves s (abandonEffects s) :=
  Leaves.after (Leaves.after (leaves_run _ _) (leaves_hci { (stopAllTimers s).hci with pendingDrop := 0 } _ rfl rfl)) (leaves_stopAllTimers s)

/-- What an IDLE HCI sends. -/
theorem leaves_hciDue {s t : State} (h : hciDue s = some t) : Leaves s t := by
  unfold hciDue at h
  split at h
  · cases h
  · split at h
    · injection h with h
      rw [← h]
      exact Leaves.after (leaves_sendRequest _ _) (leaves_hci { s.hci with pendingDrop := 0 } s rfl rfl)
    · split at h
      · cases h
      · injection h with h
        rw [← h]
        refine (leaves_hci { s.hci with held := none } s rfl rfl).trans (Leaves.trans ?_ (leaves_sendRequest _ _))
        split
        · exact leaves_abandonEffects _
        · exact Leaves.refl _

/-- The HCI sends what is due. -/
theorem leaves_hciPump (s : State) : Leaves s (hciPump s) := by
  unfold hciPump
  cases h : hciDue s with
  | none => exact Leaves.refl s
  | some t => exact leaves_hciDue h

/-- A request handed to the HCI. -/
theorem leaves_handRequest (r : Request) (s : State) : Leaves s (handRequest r s) :=
  (leaves_hci { s.hci with held := some r } s rfl rfl).trans (leaves_hciPump _)

/-- An ordinary ABANDON handed over. -/
theorem leaves_handAbandon (s : State) : Leaves s (handAbandon s) := by
  unfold handAbandon
  split
  · exact (leaves_run _ _).trans (leaves_handRequest _ _)
  · exact leaves_handRequest _ _

/-- An immediate ABANDON. -/
theorem leaves_abandonNow (s : State) : Leaves s (abandonNow s) := Leaves.after (leaves_hci _ (abandonEffects s) rfl rfl) (leaves_abandonEffects s)

/-- An end cause taken. -/
theorem leaves_endRun (cause : EndCause) (s : State) : Leaves s (endRun cause s) := by
  unfold endRun
  split
  · exact Leaves.refl s
  · dsimp only
    split
    · exact leaves_run _ _
    · exact (leaves_run _ _).trans (leaves_handAbandon _)

/-- A unit due to resolve. -/
theorem leaves_unitDue {s t : State} (h : unitDue s = some t) : Leaves s t := by
  unfold unitDue at h
  split at h
  · split at h
    · injection h with h
      rw [← h]
      exact leaves_run _ _
    · cases h
  · cases h

/-! ## The outgoing set and the rail share -/

/-- A frame handed to the outgoing set. -/
theorem leaves_handFrame (f : Frame) (s : State) : Leaves s (handFrame f s) := by
  unfold handFrame
  split
  · exact leaves_out _ _ _
  · exact Leaves.refl s

/-- A pending frame removed. -/
theorem leaves_removeFrame (k : FrameKind) (s : State) : Leaves s (removeFrame k s) := leaves_out _ s.link.attempt s

/-- The claim rule acted on. -/
theorem leaves_evaluateClaim (s : State) : Leaves s (evaluateClaim s) := by
  unfold evaluateClaim
  split
  · exact Leaves.refl s
  · split
    · split
      · have h : ∀ (c : Prop) [Decidable c] (f : Frame), Leaves s (if c then s else handFrame f s) := by
          intro c _ f
          split
          · exact Leaves.refl s
          · exact leaves_handFrame _ _
        have h' : ∀ x, Leaves s x → Leaves s (if x.rail.st = .none then removeFrame .wait x else x) := by
          intro x hx
          split
          · exact hx.trans (leaves_removeFrame _ _)
          · exact hx
        exact h' _ (h _ _)
      · refine (leaves_removeFrame .claim s).trans ?_
        dsimp only
        split
        · exact leaves_handFrame _ _
        · exact Leaves.refl _
    · exact Leaves.refl s

/-- A demand taken up. -/
theorem leaves_seekDemand (d : Nat) (s : State) : Leaves s (seekDemand d s) :=
  Leaves.after (leaves_evaluateClaim _) (leaves_rail { s.rail with ownDemand := some d, seeking := true } s rfl rfl)

/-- A demand handed over. -/
theorem leaves_handDemand (d : Nat) (s : State) : Leaves s (handDemand d s) := by
  unfold handDemand
  split
  · exact leaves_rail _ s rfl rfl
  · exact leaves_seekDemand d s

/-- The end of a give-up. -/
theorem leaves_endGiveUp (s : State) : Leaves s (endGiveUp s) := by
  unfold endGiveUp
  dsimp only
  split
  · exact Leaves.after (leaves_seekDemand _ _)
      (leaves_rail { s.rail with givingUp := false, ownDemand := none, kept := none } s rfl rfl)
  · exact leaves_rail _ s rfl rfl

/-- What a give-up gives back. -/
theorem leaves_giveBack (s : State) : Leaves s (giveBack s) := by
  unfold giveBack
  split
  · split
    · exact Leaves.refl s
    · exact leaves_handFrame _ _
  · split
    · exact Leaves.refl s
    · exact leaves_handFrame _ _
  · exact Leaves.refl s

/-- The steps of a give-up under way. -/
theorem leaves_giveUpSteps (s : State) : Leaves s (giveUpSteps s) := by
  unfold giveUpSteps
  split
  · refine (leaves_giveBack s).trans ?_
    dsimp only
    split
    · exact leaves_endGiveUp _
    · split
      · exact Leaves.refl _
      · exact leaves_rail _ _ rfl rfl
  · exact Leaves.refl s

/-- The give-up. -/
theorem leaves_giveUp (s : State) : Leaves s (giveUp s) :=
  Leaves.after (leaves_giveUpSteps _) (Leaves.after (leaves_removeFrame .wait _) (Leaves.after (leaves_removeFrame .claim _)
    (leaves_rail { s.rail with seeking := false, givingUp := true, kept := none } s rfl rfl)))

/-- The release at the end of a pass. -/
theorem leaves_releasePass (s : State) : Leaves s (releasePass s) := by
  unfold releasePass
  split
  · exact Leaves.after (leaves_handFrame _ _) (leaves_rail { s.rail with ownDemand := none } s rfl rfl)
  · exact Leaves.refl s

/-- A lost or objected attempt told to its owner. -/
theorem leaves_attemptFailed (k : FrameKind) (s : State) : Leaves s (attemptFailed k s) := by
  unfold attemptFailed
  refine Leaves.trans ?_ (leaves_giveUpSteps _)
  split
  · split
    · exact leaves_evaluateClaim s
    · exact leaves_removeFrame _ _
  · split
    · exact Leaves.refl s
    · exact leaves_removeFrame _ _
  · exact Leaves.refl s

/-- The answer to a lowered budget. -/
theorem leaves_budgetLowered (s : State) : Leaves s (budgetLowered s) := by
  unfold budgetLowered
  split
  · split
    · refine Leaves.trans ?_ (leaves_evaluateClaim _)
      split
      · exact leaves_endRun _ _
      · exact Leaves.refl s
    · exact Leaves.refl s
  · exact Leaves.refl s

/-! ## The sync unit -/

/-- The report that a SYNC step has passed. -/
theorem leaves_syncPassed (s : State) : Leaves s (syncPassed s) := by
  unfold syncPassed
  split
  · split
    · exact leaves_run _ _
    · exact Leaves.refl s
  · exact leaves_run _ _
  · exact leaves_run _ _
  · exact Leaves.refl s

/-- The passing condition evaluated. -/
theorem leaves_evaluateSync (s : State) : Leaves s (evaluateSync s) := by
  unfold evaluateSync
  split
  · split
    · exact (leaves_sync _ s).trans (leaves_syncPassed _)
    · exact Leaves.refl s
  · exact Leaves.refl s

/-- A group joined. -/
theorem leaves_joinGroup (g : Group) (s : State) : Leaves s (joinGroup g s) := (leaves_sync _ s).trans (leaves_handFrame _ _)

/-- A SYNC step marked. -/
theorem leaves_markStep (s : State) : Leaves s (markStep s) := by
  unfold markStep
  split
  · exact leaves_syncPassed s
  · exact (leaves_sync _ s).trans ((leaves_handFrame _ _).trans (leaves_evaluateSync _))

/-- The sync timeout at the Sync Unit. -/
theorem leaves_syncTimedOut (s : State) : Leaves s (syncTimedOut s) := by
  unfold syncTimedOut
  split
  · exact leaves_sync _ s
  · exact Leaves.refl s

/-- The group left. -/
theorem leaves_leaveGroup (s : State) : Leaves s (leaveGroup s) := by
  unfold leaveGroup
  split
  · exact Leaves.refl s
  · exact (leaves_sync _ s).trans ((leaves_removeFrame _ _).trans (leaves_handFrame _ _))

/-! ## The sequencer -/

/-- A visit issued. -/
theorem leaves_issueVisit (u : Nat) (mask : SiteMask) (s : State) : Leaves s (issueVisit u mask s) := by
  unfold issueVisit
  refine Leaves.trans ?_ (leaves_handRequest _ _)
  refine Leaves.trans ?_ (leaves_run _ _)
  exact leaves_mapSites _ s (fun x => ⟨rfl, rfl, rfl, rfl, rfl, rfl⟩) (fun _ => rfl) (fun _ _ => ⟨rfl, rfl⟩)

/-- A visit classified and counted. -/
theorem leaves_takeVisit (u : Nat) (s : State) : Leaves s (takeVisit u s) := by
  unfold takeVisit
  dsimp only
  split
  · exact (leaves_run _ s).trans (leaves_run _ _)
  · split
    · exact (leaves_run _ s).trans (leaves_run _ _)
    · exact (leaves_run _ s).trans (leaves_issueVisit _ _ _)

/-- One advance request. -/
theorem leaves_advanceVisit (s : State) : Leaves s (advanceVisit s) := by
  unfold advanceVisit
  split
  · exact (leaves_uag _ s).trans (leaves_takeVisit _ _)
  · exact leaves_uag _ s

/-- The UAG restarted. -/
theorem leaves_restartUag (s : State) : Leaves s (restartUag s) :=
  Leaves.after (leaves_run _ _)
    (leaves_uag (if s.uag.loaded then { s.uag with r := 0, v := 0, u := none, ended := false } else s.uag) s)

/-- The UAG unloaded. -/
theorem leaves_unloadUag (s : State) : Leaves s (unloadUag s) := leaves_uag _ s

/-- The Busy Timer Array told of a step. -/
theorem leaves_timeStep (k : Nat) (rec : StepRecord) (s : State) : Leaves s (timeStep k rec s) := by
  unfold timeStep
  have h : ∀ t : TimedStep, Leaves s (clearStats { s with timers := { s.timers with timed := some t } }) := fun t =>
    (leaves_timed _ s).trans
      (leaves_mapSites _ _ (fun x => ⟨rfl, rfl, rfl, rfl, rfl, rfl⟩) (fun _ => rfl) (fun _ _ => ⟨rfl, rfl⟩))
  cases rec with
  | erase a l b c => exact h _
  | program a d l b c => exact h _
  | verify a d b c => exact Leaves.refl s
  | dwell t => exact Leaves.refl s
  | sync t a => exact Leaves.refl s

/-- The pass plan formed. -/
theorem leaves_formPassPlan (s : State) : Leaves s (formPassPlan s) := by
  unfold formPassPlan
  split
  · exact leaves_run _ s
  · split
    · exact leaves_endRun _ _
    · exact leaves_run _ s

/-- A step begun at its entry. -/
theorem leaves_beginStep (rec : StepRecord) (s : State) : Leaves s (beginStep rec s) := by
  unfold beginStep
  split
  · dsimp only
    split
    · exact (leaves_uag _ s).trans (leaves_run _ _)
    · exact (leaves_uag _ s).trans (leaves_formPassPlan _)
  · exact leaves_unloadUag s

/-- Step entry. -/
theorem leaves_enterStep (k : Nat) (rec : StepRecord) (s : State) : Leaves s (enterStep k rec s) := by
  unfold enterStep
  split
  · exact leaves_endRun _ _
  · exact (leaves_run _ s).trans ((leaves_timeStep _ _ _).trans (leaves_beginStep _ _))

/-- The visits of a pass begun. -/
theorem leaves_runVisits (p : Phase) (s : State) : Leaves s (runVisits p s) := by
  unfold runVisits
  dsimp only
  split
  · exact leaves_run _ s
  · exact (leaves_run _ s).trans (leaves_restartUag _)

/-- The first phase of a step. -/
theorem leaves_beginPhase (rec : StepRecord) (s : State) : Leaves s (beginPhase rec s) := by
  cases rec with
  | erase a l b c =>
    unfold beginPhase
    dsimp only
    split
    · exact (leaves_run _ s).trans (leaves_runVisits _ _)
    · exact leaves_run _ s
  | program a d l b c =>
    unfold beginPhase
    dsimp only
    split
    · exact (leaves_run _ s).trans (leaves_runVisits _ _)
    · exact leaves_run _ s
  | verify a d b c => exact Leaves.after (leaves_runVisits _ _) (leaves_run { s.run with pass := 1, restarted := false } s)
  | dwell t => exact leaves_run _ s
  | sync t a => exact Leaves.after (leaves_markStep _) (leaves_run _ s)

/-- The claim of a pass. -/
theorem leaves_claimForPass (reload : Bool) (s : State) : Leaves s (claimForPass reload s) := by
  unfold claimForPass
  dsimp only
  split
  · exact (leaves_run _ s).trans (leaves_endRun _ _)
  · refine Leaves.after (leaves_handDemand _ _) ?_
    split
    · exact Leaves.after (leaves_run _ _) (leaves_run _ s)
    · exact leaves_run _ s

/-- The next pass started. -/
theorem leaves_startPass (s : State) : Leaves s (startPass s) := by
  unfold startPass
  split
  · exact leaves_run _ s
  · dsimp only
    split
    · exact leaves_run _ s
    · exact (leaves_run _ s).trans (leaves_claimForPass _ _)

/-- SUPPLY entered again. -/
theorem leaves_reenterSupply (b : Bool) (s : State) : Leaves s (reenterSupply b s) := by
  unfold reenterSupply
  split
  · exact (leaves_run _ s).trans (leaves_runVisits _ _)
  · exact leaves_claimForPass _ s

/-- The visits of a pass whose claim was carried. -/
theorem leaves_beginClaimedPass (s : State) : Leaves s (beginClaimedPass s) := (leaves_run _ s).trans (leaves_runVisits _ _)

/-- The end of a pass. -/
theorem leaves_endPass (s : State) : Leaves s (endPass s) := by
  have h : ∀ (x : State) (g : Stage), Leaves s x →
      Leaves s (if x.run.passes ≤ x.run.pass then enterExit x else { x with run := { x.run with stage := g } }) := by
    intro x g hx
    split
    · exact hx.trans (leaves_run _ x)
    · exact hx.trans (leaves_run _ x)
  unfold endPass
  dsimp only
  refine h _ _ ?_
  split
  · exact leaves_releasePass s
  · exact Leaves.refl s

/-- Step exit. -/
theorem leaves_exitStep (s : State) : Leaves s (exitStep s) := by
  unfold exitStep
  dsimp only
  split
  · exact (leaves_run _ s).trans (leaves_endRun _ _)
  · exact (leaves_run _ s).trans (leaves_run _ _)

/-- An outstanding block completed. -/
theorem leaves_finishRun (r : Response) (s : State) : Leaves s (finishRun r s) := by
  unfold finishRun
  split
  · exact Leaves.refl s
  · exact (leaves_outstanding none _ _ s).trans (leaves_respond _ _ _)

/-- An outstanding block completed. -/
theorem leaves_finishAbort (r : Response) (s : State) : Leaves s (finishAbort r s) := by
  unfold finishAbort
  split
  · exact Leaves.refl s
  · exact (leaves_outstanding _ _ none s).trans (leaves_respond _ _ _)

/-- An outstanding block completed. -/
theorem leaves_finishPause (r : Response) (s : State) : Leaves s (finishPause r s) := by
  unfold finishPause
  split
  · exact Leaves.refl s
  · exact (leaves_outstanding _ none _ s).trans (leaves_respond _ _ _)

/-- The outstanding blocks of a run completed. -/
theorem leaves_finishBlocks (cause : EndCause) (s : State) : Leaves s (finishBlocks cause s) := by
  unfold finishBlocks
  split
  · exact (leaves_finishRun _ s).trans ((leaves_finishAbort _ _).trans (leaves_finishPause _ _))
  · exact (leaves_finishRun _ s).trans ((leaves_finishAbort _ _).trans (leaves_finishPause _ _))

/-- Bytes stored in the window. -/
theorem leaves_writeBytes (a : Nat) (bs : List Byte) (s : State) : Leaves s (writeBytes a bs s) := by
  obtain ⟨m, hm⟩ := writeBytes_eq a bs s
  have hw := @writeBytes_wf a bs s
  constructor <;> intros <;>
    first
      | (rw [hm]; done)
      | (rw [hm]; assumption)
      | (rw [hm]; exact SameAccount.refl _)
      | (rw [hm]; exact ⟨rfl, rfl⟩)
      | (rename_i hb; rw [hm] at hb; exact hb)
      | (rename_i h; exact hw h)

/-- The result record written into the result buffer. -/
theorem leaves_writeRunResult (s : State) : Leaves s (writeRunResult s) := by
  unfold writeRunResult
  split
  · exact Leaves.refl s
  · split
    · exact Leaves.refl s
    · exact leaves_writeBytes _ _ s

/-- The done event. -/
theorem leaves_doneEvent (cause : EndCause) (s : State) : Leaves s (doneEvent cause s) := by
  unfold doneEvent
  refine (leaves_stopAllTimers s).trans (leaves_mapSites _ _ (fun x => ?_) (fun x => ?_) (fun x hx => ?_))
  · split
    · exact ⟨rfl, rfl, rfl, rfl, rfl, rfl⟩
    · exact SameAccount.refl _
  · split <;> rfl
  · rw [if_neg hx]
    exact ⟨rfl, rfl⟩

/-- The end of a run, up to its blocks. -/
theorem leaves_closeRun (cause : EndCause) (s : State) : Leaves s (closeRun cause s) :=
  (leaves_doneEvent cause s).trans ((leaves_run _ _).trans ((leaves_unloadUag _).trans ((leaves_sync _ _).trans (leaves_run _ _))))

/-- The end of a run. -/
theorem leaves_finishRunEnd (cause : EndCause) (s : State) : Leaves s (finishRunEnd cause s) :=
  (leaves_closeRun cause s).trans ((leaves_writeRunResult _).trans (leaves_finishBlocks _ _))

/-- The shortened teardown. -/
theorem leaves_cutShort (s : State) : Leaves s (cutShort s) := by
  unfold cutShort
  dsimp only
  split
  · exact leaves_abandonNow s
  · exact leaves_hciIdle s

/-- The teardown's next action. -/
theorem leaves_teardownDue {cause : EndCause} {s t : State} (h : teardownDue cause s = some t) : Leaves s t := by
  unfold teardownDue at h
  split at h
  · split at h
    · cases h
    · split at h
      · injection h with h
        rw [← h]
        exact leaves_finishRunEnd _ _
      · injection h with h
        rw [← h]
        exact ((leaves_run _ s).trans (leaves_giveUp _)).trans (leaves_leaveGroup _)
  · split at h
    · cases h
    · split at h
      · cases h
      · injection h with h
        rw [← h]
        exact leaves_finishRunEnd _ _

/-- The resume point recorded. -/
theorem leaves_recordResume (s : State) : Leaves s (recordResume s) := leaves_run _ s

/-- PAUSED entered. -/
theorem leaves_becomePaused (stage : Stage) (s : State) : Leaves s (becomePaused stage s) :=
  (leaves_run _ s).trans (leaves_finishPause _ _)

/-- Step entry when it is due. -/
theorem leaves_enterDue {k : Nat} {s t : State} (h : enterDue k s = some t) : Leaves s t := by
  unfold enterDue at h
  split at h
  · injection h with h
    rw [← h]
    exact leaves_enterStep _ _ _
  · cases h

/-- The next action of a RUNNING run. -/
theorem leaves_runningDue {s t : State} (h : runningDue s = some t) : Leaves s t := by
  unfold runningDue at h
  cases hs : s.run.stage with
  | idle => simp only [hs] at h; cases h
  | contact => simp only [hs] at h; cases h
  | dwell => simp only [hs] at h; cases h
  | sync => simp only [hs] at h; cases h
  | enter k => simp only [hs] at h; exact leaves_enterDue h
  | begin =>
    simp only [hs, Option.map_eq_some_iff] at h
    obtain ⟨rec, _, h⟩ := h
    rw [← h]
    exact leaves_beginPhase _ _
  | passStart => simp only [hs, Option.some.injEq] at h; rw [← h]; exact leaves_startPass s
  | reenter b =>
    simp only [hs] at h
    split at h
    · cases h
    · injection h with h; rw [← h]; exact leaves_reenterSupply _ s
  | supply =>
    simp only [hs] at h
    split at h
    · injection h with h; rw [← h]; exact leaves_beginClaimedPass s
    · cases h
  | visits =>
    simp only [hs] at h
    split at h
    · cases h
    · split at h
      · split at h
        · cases h
        · injection h with h; rw [← h]; exact leaves_endPass s
      · split at h
        · injection h with h; rw [← h]; exact leaves_advanceVisit s
        · cases h
  | closing =>
    simp only [hs] at h
    split at h
    · injection h with h; rw [← h]; exact leaves_run _ s
    · cases h
  | exit =>
    simp only [hs] at h
    split at h
    · injection h with h; rw [← h]; exact leaves_exitStep s
    · cases h

/-- The next action of a PAUSING run. -/
theorem leaves_pausingDue {s t : State} (h : pausingDue s = some t) : Leaves s t := by
  unfold pausingDue at h
  cases hs : s.run.stage with
  | idle => simp only [hs] at h; cases h
  | contact => simp only [hs] at h; cases h
  | enter k => simp only [hs] at h; exact leaves_enterDue h
  | begin => simp only [hs, Option.some.injEq] at h; rw [← h]; exact leaves_becomePaused _ s
  | passStart => simp only [hs, Option.some.injEq] at h; rw [← h]; exact leaves_becomePaused _ s
  | reenter b =>
    simp only [hs] at h
    split at h
    · cases h
    · injection h with h; rw [← h]; exact leaves_becomePaused _ s
  | dwell => simp only [hs, Option.some.injEq] at h; rw [← h]; exact leaves_becomePaused _ s
  | sync => simp only [hs, Option.some.injEq] at h; rw [← h]; exact leaves_becomePaused _ s
  | supply =>
    simp only [hs] at h
    split at h
    · injection h with h; rw [← h]; exact leaves_becomePaused _ s
    · cases h
  | visits =>
    simp only [hs] at h
    split at h
    · cases h
    · split at h
      · injection h with h; rw [← h]; exact leaves_endPass s
      · split at h
        · injection h with h; rw [← h]; exact leaves_becomePaused _ s
        · split at h
          · injection h with h; rw [← h]; exact leaves_becomePaused _ s
          · split at h
            · cases h
            · split at h
              · injection h with h; rw [← h]; exact leaves_giveUp s
              · cases h
  | closing =>
    simp only [hs] at h
    split at h
    · injection h with h; rw [← h]; exact leaves_run _ s
    · cases h
  | exit =>
    simp only [hs] at h
    split at h
    · injection h with h; rw [← h]; exact leaves_exitStep s
    · cases h

/-- The sequencer's next action. -/
theorem leaves_sequencerDue {s t : State} (h : sequencerDue s = some t) : Leaves s t := by
  unfold sequencerDue at h
  split at h
  · cases h
  · exact leaves_teardownDue h
  · exact leaves_runningDue h
  · simp only [Option.map_eq_some_iff] at h
    obtain ⟨u, hu, h⟩ := h
    rw [← h]
    exact (leaves_pausingDue hu).trans (leaves_recordResume u)
  · cases h

/-- The card's next own action. -/
theorem leaves_nextAction {s t : State} (h : nextAction s = some t) : Leaves s t := by
  rcases nextAction_cases h with h | ⟨_, h⟩ | ⟨_, _, h⟩
  · exact leaves_hciDue h
  · exact leaves_unitDue h
  · exact leaves_sequencerDue h

/-- The card's own actions run to rest. -/
theorem leaves_settle (s : State) : Leaves s (settle s) :=
  settle_keeps (P := Leaves s) (fun _ _ h hs => hs.trans (leaves_nextAction h)) s (Leaves.refl s)

end Sys2Proof.Machine
end

