-- ==== Sys2Proof/Laws/PerInstr.lean ====
section
/-! SUPPORT. The statement made for each command: no word of the table spells it, since the table gives no row any bits. -/

namespace Sys2Proof.Laws.NoWord

/-- No table word decodes to the command. -/
def Statement (i : Instr) : Prop := ∀ nbits w : Nat, decodeTableWord nbits w ≠ some i

/-- Nothing decodes. -/
theorem any (i : Instr) : Statement i := fun _ _ h => by cases h

theorem powerOnReset (straps : Straps) (lines : Lines) : Statement (.powerOnReset straps lines) := any _
theorem backplaneReset (straps : Straps) (lines : Lines) : Statement (.backplaneReset straps lines) := any _
theorem postFirstByte (value : Byte) : Statement (.postFirstByte value) := any _
theorem post (value : Byte) : Statement (.post value) := any _
theorem attentionFirstByte (value : Byte) : Statement (.attentionFirstByte value) := any _
theorem attentionAcknowledge (value : Byte) : Statement (.attentionAcknowledge value) := any _
theorem windowWrite (offset : Nat) (value : Byte) : Statement (.windowWrite offset value) := any _
theorem setProfile : Statement .setProfile := any _
theorem defineStep : Statement .defineStep := any _
theorem deleteSteps : Statement .deleteSteps := any _
theorem run : Statement .run := any _
theorem setStopOption : Statement .setStopOption := any _
theorem siteRestore : Statement .siteRestore := any _
theorem clearResults : Statement .clearResults := any _
theorem readStatus : Statement .readStatus := any _
theorem readSite : Statement .readSite := any _
theorem readFailLog : Statement .readFailLog := any _
theorem rewindLog : Statement .rewindLog := any _
theorem readBadBlocks : Statement .readBadBlocks := any _
theorem readResult : Statement .readResult := any _
theorem readPeers : Statement .readPeers := any _
theorem snapshot : Statement .snapshot := any _
theorem readSnapshot : Statement .readSnapshot := any _
theorem pause : Statement .pause := any _
theorem resume : Statement .resume := any _
theorem abort : Statement .abort := any _
theorem raiseAlert : Statement .raiseAlert := any _
theorem clearAlert : Statement .clearAlert := any _
theorem cardReset (straps : Straps) : Statement (.cardReset straps) := any _
theorem contact (mask : SiteMask) : Statement (.contact mask) := any _
theorem accept : Statement .accept := any _
theorem result (entries : List ResultEntry) : Statement (.result entries) := any _
theorem ready (mask : SiteMask) (elapsed : Nat) : Statement (.ready mask elapsed) := any _
theorem alarmSiteOvercurrent (site : Site) : Statement (.alarmSiteOvercurrent site) := any _
theorem alarmHeadFault : Statement .alarmHeadFault := any _
theorem replyDeadline : Statement .replyDeadline := any _
theorem highLimitExpiry (site : Site) : Statement (.highLimitExpiry site) := any _
theorem dwellExpiry : Statement .dwellExpiry := any _
theorem syncTimeout : Statement .syncTimeout := any _
theorem supplyWaitExpiry : Statement .supplyWaitExpiry := any _
theorem resumeGuardExpiry : Statement .resumeGuardExpiry := any _
theorem rollWindowExpiry : Statement .rollWindowExpiry := any _
theorem frameStart : Statement .frameStart := any _
theorem arbitrationLost : Statement .arbitrationLost := any _
theorem frameVoid : Statement .frameVoid := any _
theorem release (station : Station) (units : BitVec 16) : Statement (.release station units) := any _
theorem withdraw (station : Station) : Statement (.withdraw station) := any _
theorem leave (station : Station) (group : Byte) : Statement (.leave station group) := any _
theorem state (station : Station) (held : BitVec 12) (budget : BitVec 12) : Statement (.state station held budget) := any _
theorem roll (station : Station) (budget : BitVec 16) : Statement (.roll station budget) := any _
theorem mark (station : Station) (group : Byte) (mark : Byte) : Statement (.mark station group mark) := any _
theorem wait (station : Station) (need : BitVec 16) : Statement (.wait station need) := any _
theorem claim (station : Station) (units : BitVec 16) (step : Byte) : Statement (.claim station units step) := any _
theorem alertRise : Statement .alertRise := any _
theorem alertFall : Statement .alertFall := any _
theorem railFail : Statement .railFail := any _
theorem railFailRelease : Statement .railFailRelease := any _

end Sys2Proof.Laws.NoWord
end

