-- ==== Sys2Proof/Laws/RunEnd.lean ====
section
/-! SUPPORT. What taking an end cause does, with the HCI idle, with a request outstanding, and outside a run. -/

namespace Sys2Proof.Machine

/-- Outside a run an end cause does nothing. -/
theorem endRun_idle {s : State} (cause : EndCause) (h : s.run.seq = .idle) : endRun cause s = s := by
  unfold endRun
  rw [if_pos (Or.inl h)]

/-- In a run that is ending the first end cause stands. -/
theorem endRun_ending {s : State} {c : EndCause} (cause : EndCause) (h : s.run.ending = some c) : endRun cause s = s := by
  unfold endRun
  rw [if_pos (Or.inr (by rw [h]; rfl))]

/-- The teardown marked at the taking of an end cause. -/
def endingState (cause : EndCause) (s : State) : State :=
  { s with run := { s.run with ending := some cause, teardown := .abandon } }

/-- An end cause taken in a run that is not ending. -/
theorem endRun_taken {s : State} (cause : EndCause) (h : s.run.seq ≠ .idle) (he : s.run.ending = none) :
    endRun cause s =
      if cause = .complete ∨ cause = .noSites then endingState cause s else handAbandon (endingState cause s) := by
  unfold endRun
  rw [if_neg (by rw [he]; simp [h])]
  rfl

/-- ABANDON handed to an idle HCI with nothing to send goes out at once. -/
theorem handAbandon_quiet {s : State} (h : HciQuiet s) :
    handAbandon s = sendRequest .abandon (abandonEffects { s with hci := { s.hci with held := none } }) := by
  obtain ⟨ho, hh, hd⟩ := h
  have hu : holdsUnit s.hci = false := by unfold holdsUnit; rw [hh]
  unfold handAbandon
  rw [hu]
  unfold handRequest hciPump hciDue
  simp only [ho, hd, ne_eq, not_true_eq_false, if_false, if_true, Option.getD_some, Bool.false_eq_true]

/-- ABANDON handed over while a request is outstanding is held. -/
theorem handAbandon_awaiting {s : State} {o : Outstanding} (h : s.hci.outstanding = some o) :
    ∃ r : Run, handAbandon s = { s with run := r, hci := { s.hci with held := some .abandon } }
      ∧ (r = s.run ∨ r = { s.run with inflight := none }) := by
  have hp : ∀ x : State, x.hci.outstanding = some o → hciPump x = x := fun x hx => by
    unfold hciPump
    rw [hciDue_awaiting hx]
    rfl
  unfold handAbandon handRequest
  split
  · exact ⟨{ s.run with inflight := none }, hp _ h, Or.inr rfl⟩
  · exact ⟨s.run, hp _ h, Or.inl rfl⟩

/-- A run whose ABANDON awaits its ACCEPT, or is held, waits for it. -/
theorem teardown_waits {s : State} {cause : EndCause} (hr : s.run.seq ≠ .idle) (he : s.run.ending = some cause)
    (ht : s.run.teardown = .abandon) (hb : abandonBusy s.hci = true) : sequencerDue s = none := by
  unfold sequencerDue
  rw [he]
  cases hs : s.run.seq with
  | idle => exact absurd hs hr
  | running => simp only [teardownDue, ht, hb, if_true]
  | pausing => simp only [teardownDue, ht, hb, if_true]
  | paused => simp only [teardownDue, ht, hb, if_true]

/-- A run whose ABANDON awaits its ACCEPT, with no unit in flight, is at rest. -/
theorem settle_abandoned {s : State} {cause : EndCause} {d : Nat} (hr : s.run.seq ≠ .idle) (he : s.run.ending = some cause)
    (ht : s.run.teardown = .abandon) (ho : s.hci.outstanding = some { request := .abandon, deadline := d })
    (hi : s.run.inflight = none) : settle s = s := by
  have hb : abandonBusy s.hci = true := by
    unfold abandonBusy Hci.awaiting
    rw [ho]
    simp [Request.kind]
  exact settle_rest (nextAction_none (hciDue_awaiting ho) (unitDue_none hi) (teardown_waits hr he ht hb))

/-- An end cause taken with an idle HCI sends ABANDON, and the card is at rest with it. -/
theorem endRun_quiet {s : State} {cause : EndCause} (hq : HciQuiet s) (hr : s.run.seq ≠ .idle) (he : s.run.ending = none)
    (hc : cause ≠ .complete) (hn : cause ≠ .noSites) :
    (endRun cause s).run = { s.run with ending := some cause, teardown := .abandon, inflight := none }
    ∧ AbandonSent (endRun cause s) ∧ settle (endRun cause s) = endRun cause s := by
  have h : endRun cause s =
      sendRequest .abandon (abandonEffects
        { endingState cause s with hci := { (endingState cause s).hci with held := none } }) := by
    rw [endRun_taken cause hr he, if_neg (by simp [hc, hn])]
    exact handAbandon_quiet hq
  have hrun : (endRun cause s).run = { s.run with ending := some cause, teardown := .abandon, inflight := none } := by
    rw [h]
    rfl
  refine ⟨hrun, ?_, ?_⟩
  · rw [h]
    exact ⟨rfl, rfl, fun i => ⟨by
      show (stopAllTimers _).sites[i].busy = false
      rw [stopAllTimers_get], stopAllTimers_running i _⟩⟩
  · refine settle_abandoned (cause := cause) (d := Config.acceptDeadline) ?_ ?_ ?_ ?_ ?_
    · rw [hrun]; exact hr
    · rw [hrun]
    · rw [hrun]
    · rw [h]; rfl
    · rw [hrun]

end Sys2Proof.Machine
end

