-- ==== Sys2Proof/Laws/State.lean ====
section
/-! SUPPORT. One lemma for each field of State and each setter: what the setter leaves and what it sets. -/

namespace Sys2Proof.Machine.State

@[simp] theorem withPending_pending (s : State) (x : List Instr) : (s.withPending x).pending = x := rfl
@[simp] theorem withPending_cwc (s : State) (x : List Instr) : (s.withPending x).cwc = s.cwc := rfl
@[simp] theorem withPending_store (s : State) (x : List Instr) : (s.withPending x).store = s.store := rfl
@[simp] theorem withPending_run (s : State) (x : List Instr) : (s.withPending x).run = s.run := rfl
@[simp] theorem withPending_uag (s : State) (x : List Instr) : (s.withPending x).uag = s.uag := rfl
@[simp] theorem withPending_hci (s : State) (x : List Instr) : (s.withPending x).hci = s.hci := rfl
@[simp] theorem withPending_sites (s : State) (x : List Instr) : (s.withPending x).sites = s.sites := rfl
@[simp] theorem withPending_timers (s : State) (x : List Instr) : (s.withPending x).timers = s.timers := rfl
@[simp] theorem withPending_link (s : State) (x : List Instr) : (s.withPending x).link = s.link := rfl
@[simp] theorem withPending_peers (s : State) (x : List Instr) : (s.withPending x).peers = s.peers := rfl
@[simp] theorem withPending_rail (s : State) (x : List Instr) : (s.withPending x).rail = s.rail := rfl
@[simp] theorem withPending_sync (s : State) (x : List Instr) : (s.withPending x).sync = s.sync := rfl
@[simp] theorem withPending_alert (s : State) (x : List Instr) : (s.withPending x).alert = s.alert := rfl

@[simp] theorem withCwc_pending (s : State) (x : Cwc) : (s.withCwc x).pending = s.pending := rfl
@[simp] theorem withCwc_cwc (s : State) (x : Cwc) : (s.withCwc x).cwc = x := rfl
@[simp] theorem withCwc_store (s : State) (x : Cwc) : (s.withCwc x).store = s.store := rfl
@[simp] theorem withCwc_run (s : State) (x : Cwc) : (s.withCwc x).run = s.run := rfl
@[simp] theorem withCwc_uag (s : State) (x : Cwc) : (s.withCwc x).uag = s.uag := rfl
@[simp] theorem withCwc_hci (s : State) (x : Cwc) : (s.withCwc x).hci = s.hci := rfl
@[simp] theorem withCwc_sites (s : State) (x : Cwc) : (s.withCwc x).sites = s.sites := rfl
@[simp] theorem withCwc_timers (s : State) (x : Cwc) : (s.withCwc x).timers = s.timers := rfl
@[simp] theorem withCwc_link (s : State) (x : Cwc) : (s.withCwc x).link = s.link := rfl
@[simp] theorem withCwc_peers (s : State) (x : Cwc) : (s.withCwc x).peers = s.peers := rfl
@[simp] theorem withCwc_rail (s : State) (x : Cwc) : (s.withCwc x).rail = s.rail := rfl
@[simp] theorem withCwc_sync (s : State) (x : Cwc) : (s.withCwc x).sync = s.sync := rfl
@[simp] theorem withCwc_alert (s : State) (x : Cwc) : (s.withCwc x).alert = s.alert := rfl

@[simp] theorem withStore_pending (s : State) (x : PlanStore) : (s.withStore x).pending = s.pending := rfl
@[simp] theorem withStore_cwc (s : State) (x : PlanStore) : (s.withStore x).cwc = s.cwc := rfl
@[simp] theorem withStore_store (s : State) (x : PlanStore) : (s.withStore x).store = x := rfl
@[simp] theorem withStore_run (s : State) (x : PlanStore) : (s.withStore x).run = s.run := rfl
@[simp] theorem withStore_uag (s : State) (x : PlanStore) : (s.withStore x).uag = s.uag := rfl
@[simp] theorem withStore_hci (s : State) (x : PlanStore) : (s.withStore x).hci = s.hci := rfl
@[simp] theorem withStore_sites (s : State) (x : PlanStore) : (s.withStore x).sites = s.sites := rfl
@[simp] theorem withStore_timers (s : State) (x : PlanStore) : (s.withStore x).timers = s.timers := rfl
@[simp] theorem withStore_link (s : State) (x : PlanStore) : (s.withStore x).link = s.link := rfl
@[simp] theorem withStore_peers (s : State) (x : PlanStore) : (s.withStore x).peers = s.peers := rfl
@[simp] theorem withStore_rail (s : State) (x : PlanStore) : (s.withStore x).rail = s.rail := rfl
@[simp] theorem withStore_sync (s : State) (x : PlanStore) : (s.withStore x).sync = s.sync := rfl
@[simp] theorem withStore_alert (s : State) (x : PlanStore) : (s.withStore x).alert = s.alert := rfl

@[simp] theorem withRun_pending (s : State) (x : Run) : (s.withRun x).pending = s.pending := rfl
@[simp] theorem withRun_cwc (s : State) (x : Run) : (s.withRun x).cwc = s.cwc := rfl
@[simp] theorem withRun_store (s : State) (x : Run) : (s.withRun x).store = s.store := rfl
@[simp] theorem withRun_run (s : State) (x : Run) : (s.withRun x).run = x := rfl
@[simp] theorem withRun_uag (s : State) (x : Run) : (s.withRun x).uag = s.uag := rfl
@[simp] theorem withRun_hci (s : State) (x : Run) : (s.withRun x).hci = s.hci := rfl
@[simp] theorem withRun_sites (s : State) (x : Run) : (s.withRun x).sites = s.sites := rfl
@[simp] theorem withRun_timers (s : State) (x : Run) : (s.withRun x).timers = s.timers := rfl
@[simp] theorem withRun_link (s : State) (x : Run) : (s.withRun x).link = s.link := rfl
@[simp] theorem withRun_peers (s : State) (x : Run) : (s.withRun x).peers = s.peers := rfl
@[simp] theorem withRun_rail (s : State) (x : Run) : (s.withRun x).rail = s.rail := rfl
@[simp] theorem withRun_sync (s : State) (x : Run) : (s.withRun x).sync = s.sync := rfl
@[simp] theorem withRun_alert (s : State) (x : Run) : (s.withRun x).alert = s.alert := rfl

@[simp] theorem withUag_pending (s : State) (x : Uag) : (s.withUag x).pending = s.pending := rfl
@[simp] theorem withUag_cwc (s : State) (x : Uag) : (s.withUag x).cwc = s.cwc := rfl
@[simp] theorem withUag_store (s : State) (x : Uag) : (s.withUag x).store = s.store := rfl
@[simp] theorem withUag_run (s : State) (x : Uag) : (s.withUag x).run = s.run := rfl
@[simp] theorem withUag_uag (s : State) (x : Uag) : (s.withUag x).uag = x := rfl
@[simp] theorem withUag_hci (s : State) (x : Uag) : (s.withUag x).hci = s.hci := rfl
@[simp] theorem withUag_sites (s : State) (x : Uag) : (s.withUag x).sites = s.sites := rfl
@[simp] theorem withUag_timers (s : State) (x : Uag) : (s.withUag x).timers = s.timers := rfl
@[simp] theorem withUag_link (s : State) (x : Uag) : (s.withUag x).link = s.link := rfl
@[simp] theorem withUag_peers (s : State) (x : Uag) : (s.withUag x).peers = s.peers := rfl
@[simp] theorem withUag_rail (s : State) (x : Uag) : (s.withUag x).rail = s.rail := rfl
@[simp] theorem withUag_sync (s : State) (x : Uag) : (s.withUag x).sync = s.sync := rfl
@[simp] theorem withUag_alert (s : State) (x : Uag) : (s.withUag x).alert = s.alert := rfl

@[simp] theorem withHci_pending (s : State) (x : Hci) : (s.withHci x).pending = s.pending := rfl
@[simp] theorem withHci_cwc (s : State) (x : Hci) : (s.withHci x).cwc = s.cwc := rfl
@[simp] theorem withHci_store (s : State) (x : Hci) : (s.withHci x).store = s.store := rfl
@[simp] theorem withHci_run (s : State) (x : Hci) : (s.withHci x).run = s.run := rfl
@[simp] theorem withHci_uag (s : State) (x : Hci) : (s.withHci x).uag = s.uag := rfl
@[simp] theorem withHci_hci (s : State) (x : Hci) : (s.withHci x).hci = x := rfl
@[simp] theorem withHci_sites (s : State) (x : Hci) : (s.withHci x).sites = s.sites := rfl
@[simp] theorem withHci_timers (s : State) (x : Hci) : (s.withHci x).timers = s.timers := rfl
@[simp] theorem withHci_link (s : State) (x : Hci) : (s.withHci x).link = s.link := rfl
@[simp] theorem withHci_peers (s : State) (x : Hci) : (s.withHci x).peers = s.peers := rfl
@[simp] theorem withHci_rail (s : State) (x : Hci) : (s.withHci x).rail = s.rail := rfl
@[simp] theorem withHci_sync (s : State) (x : Hci) : (s.withHci x).sync = s.sync := rfl
@[simp] theorem withHci_alert (s : State) (x : Hci) : (s.withHci x).alert = s.alert := rfl

@[simp] theorem withSites_pending (s : State) (x : Vector SiteRec 16) : (s.withSites x).pending = s.pending := rfl
@[simp] theorem withSites_cwc (s : State) (x : Vector SiteRec 16) : (s.withSites x).cwc = s.cwc := rfl
@[simp] theorem withSites_store (s : State) (x : Vector SiteRec 16) : (s.withSites x).store = s.store := rfl
@[simp] theorem withSites_run (s : State) (x : Vector SiteRec 16) : (s.withSites x).run = s.run := rfl
@[simp] theorem withSites_uag (s : State) (x : Vector SiteRec 16) : (s.withSites x).uag = s.uag := rfl
@[simp] theorem withSites_hci (s : State) (x : Vector SiteRec 16) : (s.withSites x).hci = s.hci := rfl
@[simp] theorem withSites_sites (s : State) (x : Vector SiteRec 16) : (s.withSites x).sites = x := rfl
@[simp] theorem withSites_timers (s : State) (x : Vector SiteRec 16) : (s.withSites x).timers = s.timers := rfl
@[simp] theorem withSites_link (s : State) (x : Vector SiteRec 16) : (s.withSites x).link = s.link := rfl
@[simp] theorem withSites_peers (s : State) (x : Vector SiteRec 16) : (s.withSites x).peers = s.peers := rfl
@[simp] theorem withSites_rail (s : State) (x : Vector SiteRec 16) : (s.withSites x).rail = s.rail := rfl
@[simp] theorem withSites_sync (s : State) (x : Vector SiteRec 16) : (s.withSites x).sync = s.sync := rfl
@[simp] theorem withSites_alert (s : State) (x : Vector SiteRec 16) : (s.withSites x).alert = s.alert := rfl

@[simp] theorem withTimers_pending (s : State) (x : TimerArray) : (s.withTimers x).pending = s.pending := rfl
@[simp] theorem withTimers_cwc (s : State) (x : TimerArray) : (s.withTimers x).cwc = s.cwc := rfl
@[simp] theorem withTimers_store (s : State) (x : TimerArray) : (s.withTimers x).store = s.store := rfl
@[simp] theorem withTimers_run (s : State) (x : TimerArray) : (s.withTimers x).run = s.run := rfl
@[simp] theorem withTimers_uag (s : State) (x : TimerArray) : (s.withTimers x).uag = s.uag := rfl
@[simp] theorem withTimers_hci (s : State) (x : TimerArray) : (s.withTimers x).hci = s.hci := rfl
@[simp] theorem withTimers_sites (s : State) (x : TimerArray) : (s.withTimers x).sites = s.sites := rfl
@[simp] theorem withTimers_timers (s : State) (x : TimerArray) : (s.withTimers x).timers = x := rfl
@[simp] theorem withTimers_link (s : State) (x : TimerArray) : (s.withTimers x).link = s.link := rfl
@[simp] theorem withTimers_peers (s : State) (x : TimerArray) : (s.withTimers x).peers = s.peers := rfl
@[simp] theorem withTimers_rail (s : State) (x : TimerArray) : (s.withTimers x).rail = s.rail := rfl
@[simp] theorem withTimers_sync (s : State) (x : TimerArray) : (s.withTimers x).sync = s.sync := rfl
@[simp] theorem withTimers_alert (s : State) (x : TimerArray) : (s.withTimers x).alert = s.alert := rfl

@[simp] theorem withLink_pending (s : State) (x : Link) : (s.withLink x).pending = s.pending := rfl
@[simp] theorem withLink_cwc (s : State) (x : Link) : (s.withLink x).cwc = s.cwc := rfl
@[simp] theorem withLink_store (s : State) (x : Link) : (s.withLink x).store = s.store := rfl
@[simp] theorem withLink_run (s : State) (x : Link) : (s.withLink x).run = s.run := rfl
@[simp] theorem withLink_uag (s : State) (x : Link) : (s.withLink x).uag = s.uag := rfl
@[simp] theorem withLink_hci (s : State) (x : Link) : (s.withLink x).hci = s.hci := rfl
@[simp] theorem withLink_sites (s : State) (x : Link) : (s.withLink x).sites = s.sites := rfl
@[simp] theorem withLink_timers (s : State) (x : Link) : (s.withLink x).timers = s.timers := rfl
@[simp] theorem withLink_link (s : State) (x : Link) : (s.withLink x).link = x := rfl
@[simp] theorem withLink_peers (s : State) (x : Link) : (s.withLink x).peers = s.peers := rfl
@[simp] theorem withLink_rail (s : State) (x : Link) : (s.withLink x).rail = s.rail := rfl
@[simp] theorem withLink_sync (s : State) (x : Link) : (s.withLink x).sync = s.sync := rfl
@[simp] theorem withLink_alert (s : State) (x : Link) : (s.withLink x).alert = s.alert := rfl

@[simp] theorem withPeers_pending (s : State) (x : Vector Peer 8) : (s.withPeers x).pending = s.pending := rfl
@[simp] theorem withPeers_cwc (s : State) (x : Vector Peer 8) : (s.withPeers x).cwc = s.cwc := rfl
@[simp] theorem withPeers_store (s : State) (x : Vector Peer 8) : (s.withPeers x).store = s.store := rfl
@[simp] theorem withPeers_run (s : State) (x : Vector Peer 8) : (s.withPeers x).run = s.run := rfl
@[simp] theorem withPeers_uag (s : State) (x : Vector Peer 8) : (s.withPeers x).uag = s.uag := rfl
@[simp] theorem withPeers_hci (s : State) (x : Vector Peer 8) : (s.withPeers x).hci = s.hci := rfl
@[simp] theorem withPeers_sites (s : State) (x : Vector Peer 8) : (s.withPeers x).sites = s.sites := rfl
@[simp] theorem withPeers_timers (s : State) (x : Vector Peer 8) : (s.withPeers x).timers = s.timers := rfl
@[simp] theorem withPeers_link (s : State) (x : Vector Peer 8) : (s.withPeers x).link = s.link := rfl
@[simp] theorem withPeers_peers (s : State) (x : Vector Peer 8) : (s.withPeers x).peers = x := rfl
@[simp] theorem withPeers_rail (s : State) (x : Vector Peer 8) : (s.withPeers x).rail = s.rail := rfl
@[simp] theorem withPeers_sync (s : State) (x : Vector Peer 8) : (s.withPeers x).sync = s.sync := rfl
@[simp] theorem withPeers_alert (s : State) (x : Vector Peer 8) : (s.withPeers x).alert = s.alert := rfl

@[simp] theorem withRail_pending (s : State) (x : Rail) : (s.withRail x).pending = s.pending := rfl
@[simp] theorem withRail_cwc (s : State) (x : Rail) : (s.withRail x).cwc = s.cwc := rfl
@[simp] theorem withRail_store (s : State) (x : Rail) : (s.withRail x).store = s.store := rfl
@[simp] theorem withRail_run (s : State) (x : Rail) : (s.withRail x).run = s.run := rfl
@[simp] theorem withRail_uag (s : State) (x : Rail) : (s.withRail x).uag = s.uag := rfl
@[simp] theorem withRail_hci (s : State) (x : Rail) : (s.withRail x).hci = s.hci := rfl
@[simp] theorem withRail_sites (s : State) (x : Rail) : (s.withRail x).sites = s.sites := rfl
@[simp] theorem withRail_timers (s : State) (x : Rail) : (s.withRail x).timers = s.timers := rfl
@[simp] theorem withRail_link (s : State) (x : Rail) : (s.withRail x).link = s.link := rfl
@[simp] theorem withRail_peers (s : State) (x : Rail) : (s.withRail x).peers = s.peers := rfl
@[simp] theorem withRail_rail (s : State) (x : Rail) : (s.withRail x).rail = x := rfl
@[simp] theorem withRail_sync (s : State) (x : Rail) : (s.withRail x).sync = s.sync := rfl
@[simp] theorem withRail_alert (s : State) (x : Rail) : (s.withRail x).alert = s.alert := rfl

@[simp] theorem withSync_pending (s : State) (x : SyncUnit) : (s.withSync x).pending = s.pending := rfl
@[simp] theorem withSync_cwc (s : State) (x : SyncUnit) : (s.withSync x).cwc = s.cwc := rfl
@[simp] theorem withSync_store (s : State) (x : SyncUnit) : (s.withSync x).store = s.store := rfl
@[simp] theorem withSync_run (s : State) (x : SyncUnit) : (s.withSync x).run = s.run := rfl
@[simp] theorem withSync_uag (s : State) (x : SyncUnit) : (s.withSync x).uag = s.uag := rfl
@[simp] theorem withSync_hci (s : State) (x : SyncUnit) : (s.withSync x).hci = s.hci := rfl
@[simp] theorem withSync_sites (s : State) (x : SyncUnit) : (s.withSync x).sites = s.sites := rfl
@[simp] theorem withSync_timers (s : State) (x : SyncUnit) : (s.withSync x).timers = s.timers := rfl
@[simp] theorem withSync_link (s : State) (x : SyncUnit) : (s.withSync x).link = s.link := rfl
@[simp] theorem withSync_peers (s : State) (x : SyncUnit) : (s.withSync x).peers = s.peers := rfl
@[simp] theorem withSync_rail (s : State) (x : SyncUnit) : (s.withSync x).rail = s.rail := rfl
@[simp] theorem withSync_sync (s : State) (x : SyncUnit) : (s.withSync x).sync = x := rfl
@[simp] theorem withSync_alert (s : State) (x : SyncUnit) : (s.withSync x).alert = s.alert := rfl

@[simp] theorem withAlert_pending (s : State) (x : AlertMonitor) : (s.withAlert x).pending = s.pending := rfl
@[simp] theorem withAlert_cwc (s : State) (x : AlertMonitor) : (s.withAlert x).cwc = s.cwc := rfl
@[simp] theorem withAlert_store (s : State) (x : AlertMonitor) : (s.withAlert x).store = s.store := rfl
@[simp] theorem withAlert_run (s : State) (x : AlertMonitor) : (s.withAlert x).run = s.run := rfl
@[simp] theorem withAlert_uag (s : State) (x : AlertMonitor) : (s.withAlert x).uag = s.uag := rfl
@[simp] theorem withAlert_hci (s : State) (x : AlertMonitor) : (s.withAlert x).hci = s.hci := rfl
@[simp] theorem withAlert_sites (s : State) (x : AlertMonitor) : (s.withAlert x).sites = s.sites := rfl
@[simp] theorem withAlert_timers (s : State) (x : AlertMonitor) : (s.withAlert x).timers = s.timers := rfl
@[simp] theorem withAlert_link (s : State) (x : AlertMonitor) : (s.withAlert x).link = s.link := rfl
@[simp] theorem withAlert_peers (s : State) (x : AlertMonitor) : (s.withAlert x).peers = s.peers := rfl
@[simp] theorem withAlert_rail (s : State) (x : AlertMonitor) : (s.withAlert x).rail = s.rail := rfl
@[simp] theorem withAlert_sync (s : State) (x : AlertMonitor) : (s.withAlert x).sync = s.sync := rfl
@[simp] theorem withAlert_alert (s : State) (x : AlertMonitor) : (s.withAlert x).alert = x := rfl

end Sys2Proof.Machine.State
end

