-- ==== Sys2Proof/Tests/Slice0.lean ====
section
/-! SUPPORT. The model's own tests: ill-formed commands refused, figures and tables of the manual's worked sequences, and states that meet the
hypotheses of the obligations. -/

namespace Sys2Proof.Tests

-- One test after another: checked side by side, each test of the kernel's holds a thread and its stack.
set_option Elab.async false

open Sys2Proof.Machine

/-! ## Ill-formed commands -/

theorem test_wf_windowWrite : (Instr.windowWrite 0x1000 0).wellFormed = false ∧ (Instr.windowWrite 0xFFF 0).wellFormed = true := by decide
theorem test_wf_result :
    (Instr.result (List.replicate 17 { site := 0, failBits := 1, offset := 0 })).wellFormed = false
    ∧ (Instr.result (List.replicate 16 { site := 0, failBits := 1, offset := 0 })).wellFormed = true := by decide
theorem test_wf_release :
    (Instr.release 0 0).wellFormed = false ∧ (Instr.release 0 1024).wellFormed = false ∧ (Instr.release 0 1023).wellFormed = true := by
  decide
theorem test_wf_leave : (Instr.leave 0 4).wellFormed = false ∧ (Instr.leave 0 3).wellFormed = true := by decide
theorem test_wf_state :
    (Instr.state 0 1024 8).wellFormed = false ∧ (Instr.state 0 0 1024).wellFormed = false
    ∧ (Instr.state 0 1023 1023).wellFormed = true := by decide
theorem test_wf_roll : (Instr.roll 0 1024).wellFormed = false ∧ (Instr.roll 0 1023).wellFormed = true := by decide
theorem test_wf_mark :
    (Instr.mark 0 4 0).wellFormed = false ∧ (Instr.mark 0 0 129).wellFormed = false ∧ (Instr.mark 0 3 128).wellFormed = true := by
  decide
theorem test_wf_wait : (Instr.wait 0 0).wellFormed = false ∧ (Instr.wait 0 1024).wellFormed = false := by decide
theorem test_wf_claim :
    (Instr.claim 0 0 0).wellFormed = false ∧ (Instr.claim 0 1024 0).wellFormed = false ∧ (Instr.claim 0 1 128).wellFormed = false
    ∧ (Instr.claim 0 1 127).wellFormed = true := by decide

/-! ## Builders of small states -/

/-- The state after an outcome. -/
def after (o : Host.Outcome State Fault Refusal) : State :=
  match o with
  | .next t => t
  | _ => State.reset

/-- The 64 bytes of a command block: code, notify value, operand, buffer offset and length. -/
def blockBytes (code notify : Nat) (op : List Byte) (buf len : Nat) : List Byte :=
  beBytes 1 code ++ [0, 0] ++ beBytes 1 notify ++ beBytes 1 op.length ++ [0, 0, 0] ++ beBytes 2 buf ++ beBytes 2 len ++ [0, 0, 0, 0]
    ++ op ++ List.replicate (48 - op.length) 0

/-- A copied block posted at 0x100. -/
def blk (code : Nat) (op : List Byte) (buf len : Nat) : Block := { offset := 0x100, bytes := blockBytes code 0 op buf len }

/-- The card with empty block queues. -/
def noBlocks (s : State) : State := { s with cwc := { s.cwc with urgent := [], plan := [] } }

/-- The card with one block waiting in the urgent queue. -/
def inUrgent (b : Block) (s : State) : State := { s with cwc := { s.cwc with urgent := [b], plan := [] } }

/-- The card with one block waiting in the plan queue. -/
def inPlan (b : Block) (s : State) : State := { s with cwc := { s.cwc with urgent := [], plan := [b] } }

/-- The operand of the profile of section 2.4, with c, the share limit and the window count as given. -/
def profileOp (c share windows : Nat) : List Byte :=
  beBytes 1 11 ++ beBytes 1 2 ++ beBytes 1 3 ++ beBytes 1 c ++ beBytes 2 120 ++ beBytes 2 180 ++ beBytes 3 5000 ++ beBytes 3 200000
    ++ beBytes 3 2000 ++ beBytes 3 30000 ++ beBytes 1 2 ++ beBytes 1 1 ++ beBytes 1 3 ++ beBytes 2 share ++ beBytes 2 500
    ++ beBytes 1 windows ++ beBytes 2 4 ++ beBytes 2 5

/-- The profile of section 2.4. -/
def prof : Profile :=
  { p := 11, s := 2, b := 3, c := 7, eraseDraw := 120, programDraw := 180, eraseLimits := { low := 5000, high := 200000 }
    programLimits := { low := 2000, high := 30000 }, allowance := 2, passBin := 1, tripBin := 3, shareLimit := 40, supplyLimit := 500
    windows := [(4, 5)] }

/-- A card with the profile of section 2.4 and an UP link with nothing pending. -/
def card : State :=
  { State.reset with
    store := { PlanStore.reset with profile := some prof }
    link := { State.reset.link with st := .up, out := Outgoing.empty } }

/-- The card with a record in entry 0. -/
def planned : State := { card with store := { card.store with steps := card.store.steps.set 0 (some (.dwell 1)) } }

/-- The card with its Run Sequencer changed. -/
def withSeq (q : SeqState) (s : State) : State := { s with run := { s.run with seq := q } }

/-- A site record in a state. -/
def siteIn (st : SiteState) : SiteRec := { SiteRec.reset with state := st }

/-- The operand of an address step of section 2.4: index, kind, granule, base, N, stride, W, fail bin. -/
def stepOp (k kind gran base n stride w bin last : Nat) : List Byte :=
  beBytes 1 k ++ beBytes 1 kind ++ [0] ++ beBytes 1 gran ++ beBytes 4 base ++ beBytes 3 n ++ beBytes 2 stride ++ [0] ++ beBytes 1 w
    ++ beBytes 2 1 ++ [0, 0x5A] ++ beBytes 1 bin ++ beBytes 1 last

/-- The first refusal that a DEFINE-STEP meets on the card. -/
def defineRefusal (op : List Byte) : Option Response := firstRefusal (defineStepChecks (blk 2 op 0 0) card)

/-! ## Section 2.4: loading a plan -/

theorem test_2_4_profile_operand : profileOperand (blk 1 (profileOp 7 40 1) 0 0) = prof := by decide
theorem test_2_4_profile_range : (profileOperand (blk 1 (profileOp 20 40 1) 0 0)).inRange = false := by decide
theorem test_2_4_wrap_range : defineRefusal (stepOp 2 3 1 4096 4 5 13 8 0) = some .wrapRange := by decide +kernel
theorem test_2_4_base_range : defineRefusal (stepOp 2 3 1 4096 4 5 6 16 0) = some .baseRange := by decide +kernel
theorem test_2_4_stride_range : defineRefusal (stepOp 1 2 1 1982 4 64 6 7 1) = some .strideRange := by decide +kernel
theorem test_2_4_bin_range : defineRefusal (stepOp 2 3 1 1982 4 5 6 16 0) = some .binRange := by decide +kernel
theorem test_2_4_granule : defineRefusal (stepOp 1 2 3 0 4 5 0 7 1) = some .granuleNotAllowed := by decide +kernel
theorem test_2_4_dwell_zero : defineRefusal [4, 4, 0, 0, 0] = some .countRange := by decide +kernel
theorem test_2_4_step_accepted : defineRefusal (stepOp 1 2 1 1982 4 5 6 7 1) = none := by decide +kernel
theorem test_2_4_step_record :
    stepOperand (blk 2 (stepOp 1 2 1 1982 4 5 6 7 1) 0 0) =
      .program { granule := .page, base := 1982, count := 4, stride := 5, dir := .up, wrap := 6, repeats := 1 }
        { mode := .solid, seed := 0x5A } none 7 .logOnly := by decide

/-! ## Section 3.4: sequences of units -/

/-- The UAG loaded with a PAGE step under the profile of section 2.4. -/
def uagOf (base n stride w r : Nat) (d : Direction) : Uag :=
  { loaded := true
    load := uagLoadOf prof .program
      { granule := .page, base := base, count := n, stride := stride, dir := d, wrap := w, repeats := r }
    r := 0, v := 0, u := none, ended := false }

/-- The answers to `n` advance requests. -/
def units (n : Nat) (x : Uag) : List (Option Nat) := (List.range n).map fun k => (advanceUag (advances k x)).2

theorem test_3_4_window_up : units 5 (uagOf 1982 4 5 6 1 .up) = [some 1982, some 1923, some 1928, some 1933, none] := by decide
theorem test_3_4_window_down : units 4 (uagOf 1925 3 9 6 1 .down) = [some 1925, some 1980, some 1971, none] := by decide
theorem test_3_4_repeats :
    units 7 (uagOf 4094 3 3 0 2 .up) = [some 4094, some 1, some 4, some 4094, some 1, some 4, none] := by decide
theorem test_3_4_wide_stride : units 4 (uagOf 10 4 4095 2 1 .down) = [some 10, some 11, some 8, some 9] := by decide
theorem test_3_4_blocks :
    blockOf prof .sector 37 = some 4 ∧ blockOf prof .page 150 = some 4 ∧ inExclusion prof .sector 31 = false
    ∧ inExclusion prof .sector 32 = true ∧ inExclusion prof .device 0 = true := by decide

/-! ## Sections 4.6 and 8.2.1: pass selection -/

theorem test_4_6_passes : passSelection 6 120 40 = some (6, 1) ∧ railDemand 6 120 = 29 ∧ passSelection 6 180 40 = some (3, 2) := by decide
theorem test_8_2_1_passes :
    passSelection 13 180 40 = some (4, 4) ∧ passSelection 9 500 64 = some (3, 3) ∧ passSelection 3 100 8 = some (2, 2)
    ∧ passSelection 5 320 12 = none ∧ railDemand 1 180 = 8 ∧ railDemand 3 180 = 22 := by decide

/-! ## Section 1.4: the story of one unit -/

/-- Sites 4, 5, 6 and 9 busy in the unit of page 150, at a common timer value. -/
def inUnitState (v : Nat) : State :=
  let named : SiteMask := 0x0270
  { card with
    sites := tabulate 16 fun i => if inMask named i then { siteIn .active with busy := true } else SiteRec.reset
    timers :=
      { values := tabulate 16 fun i => if inMask named i then v else 0, running := tabulate 16 fun i => inMask named i
        timed := some { step := 1, limits := { low := 2000, high := 30000 }, action := .retire, bin := 7 }, latch := none }
    run := { card.run with
      seq := .running, phase := .operate, stage := .visits, current := some 1
      inflight := some { kind := .operate true, step := 1, rep := 1, granule := .page, unit := 150, mask := named } } }

theorem test_1_4_fast :
    let t := after (exec (.ready 0x20 1200) (inUnitState 0))
    (t.sites[5].state, t.sites[5].bin, t.sites[5].busy, t.timers.values[5]) = (.retired, 7, false, 1200)
    ∧ t.sites[5].log = [{ step := 1, rep := 1, granule := .page, unit := 150, kind := .fast, value := 1200, offset := none }]
    ∧ t.timers.values[4] = 1200 := by decide +kernel
theorem test_1_4_stray :
    let s := inUnitState 15400
    let t := after (exec (.ready 0x30 0) { s with sites := s.sites.set 5 (siteIn .retired) })
    t.hci.strays = 1 ∧ t.sites[4].state = .active ∧ t.sites[4].log = [] := by decide +kernel
theorem test_1_4_alarm :
    let t := after (exec (.alarmSiteOvercurrent 6) (inUnitState 20999))
    (t.sites[6].state, t.sites[6].bin, t.sites[6].busy) = (.tripped, 3, false) ∧ t.sites[6].log.length = 1
    ∧ t.run.inflight.map (·.mask) = some 0x0230 := by decide +kernel
theorem test_1_4_slow :
    let t := after (exec (.highLimitExpiry 9) (inUnitState 21000))
    (t.sites[9].state, t.sites[9].bin, t.timers.values[9]) = (.retired, 7, 30000)
    ∧ t.hci.outstanding = some { request := .drop 0x0200, deadline := 200 } ∧ t.timers.values[4] = 30000 := by decide +kernel
theorem test_R95_expire_together :
    let t := after (exec (.highLimitExpiry 4) (after (exec (.highLimitExpiry 9) (inUnitState 21000))))
    (t.sites[4].state, t.timers.values[4], t.hci.pendingDrop) = (.retired, 30000, 0x0010)
    ∧ t.hci.outstanding = some { request := .drop 0x0200, deadline := 200 } := by decide +kernel
theorem test_R17_no_drop_for_tripped :
    let t := after (exec (.alarmSiteOvercurrent 4) (after (exec (.highLimitExpiry 4) (after (exec (.highLimitExpiry 9) (inUnitState 21000))))))
    t.hci.pendingDrop = 0 ∧ t.sites[4].state = .tripped := by decide +kernel

theorem test_R185_attention_output :
    attentionOutput card = false ∧ attentionOutput (respond { offset := 0x100, bytes := blockBytes 7 1 [] 0 0 } .ok card) = true := by
  decide +kernel

/-! ## Sections 6.7 and 6.8: the account of a site -/

/-- A COMPARE awaits its RESULT for blocks 10 of sites 0 and 1; site 0 has two bad blocks, site 1 one. -/
def verifyState : State :=
  { card with
    sites := (card.sites.set 0 { siteIn .active with badBlocks := [8, 9], failBits := 47 }).set 1
      { siteIn .active with badBlocks := [8], failBits := 2 }
    hci := { card.hci with
      outstanding := some { request := .compare .block 16 10 3 { mode := .solid, seed := 0 }, deadline := 10000 } }
    run := { card.run with
      seq := .running, phase := .compare, stage := .visits, current := some 5
      record := some (.verify { granule := .block, base := 8, count := 4, stride := 1, dir := .up, wrap := 0, repeats := 1 }
        { mode := .solid, seed := 0 } 8 false)
      inflight := some { kind := .compare, step := 5, rep := 1, granule := .block, unit := 10, mask := 3 } } }

theorem test_6_7_third_block_retires :
    let t := after (exec (.result [{ site := 0, failBits := 1, offset := 0xFFFF }, { site := 1, failBits := 65535, offset := 0x200 }])
      verifyState)
    (t.sites[0].state, t.sites[0].bin, t.sites[0].badBlocks, t.sites[0].failBits) = (.retired, 8, [8, 9, 10], 48)
    ∧ (t.sites[1].state, t.sites[1].badBlocks, t.sites[1].failBits) = (.active, [8, 10], 65537) := by decide +kernel
theorem test_6_8_log_and_overflow :
    let f := failRecord { kind := .compare, step := 0, rep := 1, granule := .page, unit := 0, mask := 1 } .slow 1 none
    let x := { SiteRec.reset with log := List.replicate 31 f, cursor := 20, failUnits := 31 }
    let y := countFailUnit (logRecord f x)
    (y.log.length, y.overflow, y.failUnits) = (32, 0, 32) ∧ unreadCount 20 y = 12
    ∧ (logRecord f y).overflow = 1 ∧ (logRecord f y).log.length = 32 := by decide

/-! ## Chapter 7: frames, the roll call and the budget -/

theorem test_R117_withdraw_bytes : frameBytes 2 .withdraw = [34, 0, 0, 0, 0xDE] := by decide
theorem test_R120_objections :
    objects card [34, 0, 0, 0, 0xDE] = false ∧ frameHeard [34, 0, 0, 0, 0xDE] = some (2, .withdraw)
    ∧ frameHeard [34, 1, 2, 3, 0xD8] = some (2, .withdraw)
    ∧ objects card [34, 0, 0, 0, 0xDF] = true ∧ objects card [2, 0, 0, 0, 0xFE] = true ∧ objects card [0x90, 0, 0, 0, 0x70] = true
    ∧ objects card [42, 0, 0, 0, 0xD6] = true ∧ objects card [0x10, 0x04, 0, 0, 0xEC] = true ∧ objects card [34, 0, 0, 0] = true
    ∧ objects { card with link := { card.link with st := .mute } } [34, 0, 0, 0, 0xDF] = false
    ∧ objects { card with link := { card.link with st := .off } } [] = false ∧ objects State.reset [] = true := by decide
theorem test_R120_bytes_say_frame :
    frameHeard (frameBytes 5 (.state 1023 1023)) = some (5, .state 1023 1023)
    ∧ frameHeard (frameBytes 7 (.claim 1023 127)) = some (7, .claim 1023 127)
    ∧ frameHeard (frameBytes 0 (.mark 3 128)) = some (0, .mark 3 128) ∧ frameHeard (frameBytes 1 (.wait 1)) = some (1, .wait 1)
    ∧ frameHeard (frameBytes 3 (.roll 48)) = some (3, .roll 48) ∧ frameHeard (frameBytes 4 (.leave 2)) = some (4, .leave 2)
    ∧ frameHeard (frameBytes 6 (.release 256)) = some (6, .release 256) := by decide
theorem test_7_7_keys :
    frameKey 0 (.release 29) = 16 ∧ frameKey 0 (.state 29 64) = 64 ∧ frameKey 5 (.state 0 64) = 69 ∧ frameKey 3 (.roll 48) = 83 := by decide
theorem test_12_2_state_payload : (Frame.state 29 64).payload = [0x01, 0xD0, 0x40] := by decide
theorem test_7_7_roll_lowers :
    let t := after (exec (.roll 3 48) card)
    t.link.effBudget = 48 ∧ t.peers[3] = { Peer.absent with present := true, budget := some 48 } ∧ t.link.out.state = true := by decide +kernel
theorem test_R125_own_roll_mutes : (after (exec (.roll 0 64) card)).link.st = .mute := by decide +kernel

/-! ## Section 8.9: three stations share 64 -/

/-- Station `own` seeking a demand while station 1 holds `held`, with the waiter list given. -/
def seeking (own : Station) (d held : Nat) (st : RailState) (list : List (Station × Nat)) : State :=
  { card with
    link := { card.link with own := own }
    peers := tabulate 8 fun x =>
      { Peer.absent with present := true, held := if x = 1 then held else 0, need := (list.find? fun e => e.1 == x).map (·.2) }
    rail := { card.rail with st := st, ownDemand := some d, seeking := true, waiters := list.map (·.1) } }

theorem test_8_9_row_0 : (evaluateClaim (seeking 0 40 29 .none [])).link.out.wait = some 40 := by decide
theorem test_8_9_row_1 :
    claimRule (seeking 2 20 29 .none [(0, 40)]) 20 = false
    ∧ (evaluateClaim (seeking 2 20 29 .none [(0, 40)])).link.out.wait = some 20 := by decide
theorem test_8_9_row_3 :
    (after (exec (.release 1 29) (seeking 0 40 29 .waiting [(0, 40), (2, 20)]))).link.out.claim = some (40, 0)
    ∧ (after (exec (.release 1 29) (seeking 2 20 29 .waiting [(0, 40), (2, 20)]))).link.out.claim = some (20, 0) := by decide +kernel
theorem test_8_9_row_4 :
    (after (exec (.claim 0 40 0) (seeking 2 20 0 .waiting [(0, 40), (2, 20)]))).link.out.claim = some (20, 0) := by decide +kernel

/-! ## Section 9.6 and chapter 10 -/

/-- A station waiting for mark 1 of group 1, station 5 below it. -/
def meeting : State :=
  { card with
    peers := (card.peers.set 0 { card.peers[0] with group := some 1, lastMark := some 1 }).set 5
      { Peer.absent with present := true, group := some 1, lastMark := some 0 }
    sync := { ownGroup := some 1, markCount := 1, awaited := some 1, markCarried := true, laggards := 0 }
    run := { card.run with
      seq := .running, phase := .sync, stage := .sync, current := some 0, last := 1, record := some (.sync 200 .endRun)
      group := some 1, syncRem := some 20000 } }

theorem test_9_6_leave_frees : (after (exec (.leave 5 1) meeting)).sync.awaited = none
    ∧ (after (exec (.leave 5 1) meeting)).run.stage = .enter 1 := by decide +kernel
theorem test_9_6_timeout_laggards :
    let t := after (exec .syncTimeout meeting)
    t.sync.laggards = 0x20 ∧ t.run.ending = some .syncTimeout ∧ t.hci.cable = some .abandon := by decide +kernel
theorem test_10_5_rise_stops :
    let t := after (exec .alertRise meeting)
    t.run.ending = some .stopped ∧ t.alert.count = 0 ∧ t.alert.level = true := by decide +kernel
/-- An own frame started and then carried. -/
def carryOwn (c : Instr) (s : State) : State := after (exec c (after (exec .frameStart s)))

theorem test_R163_own_mark_unsent :
    let s := { meeting with
      peers := meeting.peers.set 0 { Peer.absent with present := true }, sync := { meeting.sync with markCarried := false } }
    (after (exec .syncTimeout s)).sync.laggards = 0x21
    ∧ (after (exec .syncTimeout { s with run := { s.run with ending := some .aborted }, hci := { s.hci with
        outstanding := some { request := .abandon, deadline := 5 } } })).sync.laggards = 0x21 := by decide +kernel

/-- A twin's frame moves the own entry: the own number is then in the mask by that entry alone, its own MARK having been carried. -/
theorem test_R163_own_mark_carried :
    (after (exec .syncTimeout (after (exec (.leave 0 1) meeting)))).sync.laggards = 0x20
    ∧ (after (exec .syncTimeout (after (exec (.mark 0 1 0) meeting)))).sync.laggards = 0x21
    ∧ (let s := { meeting with sync := { meeting.sync with markCarried := false } }
       (after (exec .syncTimeout s)).sync.laggards = 0x21
       ∧ (carryOwn (.mark 0 1 1) { s with link := { s.link with out := s.link.out.put (.mark 1 1) } }).sync.markCarried = true) := by
  decide +kernel

/-- A station that waits on after its LEAVE was handed over still forms the mask, and still passes. -/
theorem test_R163_after_leave :
    let s := { meeting with
      sync := { meeting.sync with ownGroup := none }, run := { meeting.run with ending := some .aborted, teardown := .frames }
      link := { meeting.link with out := { meeting.link.out with leave := some 1 } } }
    let t := after (exec .syncTimeout s)
    t.sync.laggards = 0x20 ∧ t.sync.awaited = none ∧ t.run.ending = some .aborted
    ∧ (after (exec (.leave 5 1) s)).sync.awaited = none := by decide +kernel

/-- The eighth objection to an own CLAIM that is being given up: the give-up ends, and the own demand with it. -/
theorem test_R149_eighth_objection :
    let s := { card with
      link := { card.link with attempt := some { frame := .claim 40 0, replaced := false }, objections := 7 }
      rail := { card.rail with ownDemand := some 40, givingUp := true } }
    let t := after (exec .frameVoid s)
    t.link.st = .mute ∧ t.rail.givingUp = false ∧ t.rail.ownDemand = none := by decide +kernel

theorem test_10_5_release_and_leave :
    let held := { meeting with
      rail := { meeting.rail with st := .holding }
      peers := meeting.peers.set 0 { meeting.peers[0] with held := 29 } }
    let t := after (exec .accept (after (exec .alertRise held)))
    (t.link.out.release, t.link.out.leave, t.run.ending) = (some 29, some 1, some .stopped)
    ∧ (carryOwn (.leave 0 1) (carryOwn (.release 0 29) t)).run.seq = .idle := by decide +kernel

/-! ## Chapters 11 and 12: the window -/

theorem test_11_7_bad_post :
    let t := after (exec (.post 0xC8) (after (exec (.postFirstByte 1) card)))
    t.cwc.badPosts = 1 ∧ t.cwc.plan = [] ∧ t.cwc.postCell = 0x1C8 := by decide +kernel
theorem test_11_7_card_reset :
    let s := { card with cwc := { card.cwc with
      urgent := [{ offset := 0x240, bytes := blockBytes 0x2E 2 [] 0 0 }]
      plan := [{ offset := 0x280, bytes := blockBytes 0x07 0 [] 0 0 }]
      outRun := some { offset := 0x100, bytes := blockBytes 0x04 1 [0, 0, 0xFF] 0x800 56 }, attention := 1 } }
    let t := after (exec (.cardReset { station := 0, budget := 64 }) (withSeq .running s))
    (readArea t 0x101, readArea t 0x281, readArea t 0x241, t.cwc.attention) = (0x15, 0x15, 0x01, 3)
    ∧ (readArea t 0x800, t.run.seq, t.link.st) = (12, .idle, .rolling) := by decide +kernel
theorem test_12_lengths :
    (statusArea card).length = 64 ∧ (statusBytes card).length = 96 ∧ (peersBytes card).length = 88 ∧ (resultBytes none).length = 56
    ∧ (siteBytes card 3).length = 36 ∧ (badBlockBytes card 3).length = 132 ∧ (snapshotBytes 2 (snapshotOf card)).length = 80
    ∧ (headErrorBytes none).length = 12 := by decide +kernel
theorem test_12_5_status_at_reset :
    (windowRead State.reset 0x0A, windowRead State.reset 0x0F, windowRead card 0x0F, windowRead card 0x0C) = (0xFF, 0, 1, 1) := by decide +kernel
theorem test_run_end_codes :
    (Response.runEnd .complete).code = 0x41 ∧ (Response.runEnd .noSites).code = 0x4B ∧ (Response.runEnd .cardReset).code = 0x15 := by decide

/-! ## Resets and steps -/

theorem test_reset_power_on :
    exec (.powerOnReset { station := 0, budget := 64 } { alert := false, railFail := false }) card = .next State.reset := rfl
theorem test_reset_budget_clamp : (Link.reset { station := 7, budget := 3 }).ownBudget = 8 := by decide
theorem test_no_word_spells : decodeTableWord 8 0 = none ∧ card.withFetchWord 8 0 = card := ⟨rfl, rfl⟩
theorem test_step_takes_front :
    step { card with pending := [.railFailRelease, .accept] } =
      .next { card with pending := [.accept], alert := { card.alert with railFail := false } } := rfl

/-! ## States that meet the hypotheses of the obligations, clause by clause

A theorem `test_meets_X` shows that the hypotheses of each clause of the obligation X are met together. -/

/-- A block waiting in the urgent queue is served next. -/
theorem servedUrgent {c : Cmd} {b : Block} {s : State} (hc : cmdOfCode b.code = some c) (hw : windowChecks c b (noBlocks s) = none) :
    Served c b (inUrgent b s) (noBlocks s) := ⟨⟨rfl, hc⟩, hw⟩

/-- A block waiting in the plan queue is served next. -/
theorem servedPlan {c : Cmd} {b : Block} {s : State} (hc : cmdOfCode b.code = some c) (hw : windowChecks c b (noBlocks s) = none) :
    Served c b (inPlan b s) (noBlocks s) := ⟨⟨rfl, hc⟩, hw⟩

theorem test_meets_StepTakesFront : { card with pending := [.accept] }.pending = .accept :: [] := rfl

theorem test_meets_EmptyQueuePassesTick :
    (inUnitState 29998).pending = [] ∧ (inUnitState 29998).timers.timed.isSome = true ∧ (inUnitState 29998).timers.running[4] = true
    ∧ (inUnitState 29998).timers.running[0] = false ∧ card.timers.timed = none := by decide +kernel

theorem test_meets_CommandsAnswered :
    (Instr.windowWrite 0xFFF 0).wellFormed = true ∧ 0x1000 ≤ 0x1000 ∧ ∃ t, exec .accept card = .next t := ⟨by decide, by decide, _, rfl⟩

/-- The card with a block's bytes written at an offset and the post cell's first byte held. -/
def written (off code : Nat) (s : State) : State :=
  writeBytes off (blockBytes code 0 [] 0 0) { s with cwc := { s.cwc with postHeld := BitVec.ofNat 8 (off / 256) } }

/-- The card with full queues. -/
def full : State :=
  { card with cwc := { card.cwc with urgent := List.replicate 4 (blk 0x29 [] 0 0), plan := List.replicate 8 (blk 0x07 [] 0 0) } }

/-- The card with queues one short of full. -/
def almostFull : State :=
  { card with cwc := { card.cwc with urgent := List.replicate 3 (blk 0x29 [] 0 0), plan := List.replicate 7 (blk 0x07 [] 0 0) } }

theorem test_meets_PostsTaken_queued :
    (let s := written 0xFC0 0x29 almostFull
     Memory.wf s.cwc.mem = true ∧ postValid (256 * s.cwc.postHeld.toNat + 0xC0) = true
     ∧ cmdOfCode (readArea s (256 * s.cwc.postHeld.toNat + 0xC0)) = some .pause ∧ s.cwc.urgent.length < 4)
    ∧ (let s := written 0x100 0x07 almostFull
       Memory.wf s.cwc.mem = true ∧ postValid (256 * s.cwc.postHeld.toNat + 0) = true
       ∧ cmdOfCode (readArea s (256 * s.cwc.postHeld.toNat + 0)) = some .clearResults ∧ s.cwc.plan.length < 8) := by decide +kernel

theorem test_meets_PostsTaken_not_queued :
    (Memory.wf card.cwc.mem = true ∧ postValid (256 * card.cwc.postHeld.toNat + 0xFF) = false)
    ∧ (let s := written 0xFC0 0x29 full
       Memory.wf s.cwc.mem = true ∧ postValid (256 * s.cwc.postHeld.toNat + 0xC0) = true
       ∧ cmdOfCode (readArea s (256 * s.cwc.postHeld.toNat + 0xC0)) = some .pause ∧ 4 ≤ s.cwc.urgent.length)
    ∧ (let s := written 0x100 0x07 full
       postValid (256 * s.cwc.postHeld.toNat + 0) = true
       ∧ cmdOfCode (readArea s (256 * s.cwc.postHeld.toNat + 0)) = some .clearResults ∧ 8 ≤ s.cwc.plan.length)
    ∧ (let s := written 0x100 0x2F card
       postValid (256 * s.cwc.postHeld.toNat + 0) = true ∧ cmdOfCode (readArea s (256 * s.cwc.postHeld.toNat + 0)) = none) := by
  decide +kernel

theorem test_meets_WindowBytesWritten : Memory.wf card.cwc.mem = true ∧ 0x100 ≤ 0xFFF ∧ 0xFFF < 0x1000 ∧ 0x3F < 0x40 ∧ 0x44 ≤ 0xFF := by
  decide

theorem test_meets_BlockTakenAndCompleted :
    (inUrgent (blk 0x29 [] 0 0) card).cwc.urgent = [blk 0x29 [] 0 0] ∧ (inPlan (blk 7 [] 0 0) card).cwc.urgent = []
    ∧ (inPlan (blk 7 [] 0 0) card).cwc.plan = [blk 7 [] 0 0] ∧ card.cwc.urgent = [] ∧ card.cwc.plan = []
    ∧ Memory.wf card.cwc.mem = true ∧ postValid { blk 1 [] 0 0 with offset := 0xFC0 }.offset = true
    ∧ { blk 1 [] 0 0 with bytes := blockBytes 1 1 [] 0 0 }.notify ≠ 0 := ⟨rfl, rfl, rfl, rfl, rfl, rfl, by decide, by decide⟩

/-- A HALTED card. -/
def halted : State :=
  { card with
    alert := { card.alert with halted := true, railFail := true }
    link := { card.link with st := .off } }

theorem test_meets_WindowChecksInOrder_halted :
    Serving .pause (blk 0x29 [] 0 0) (inUrgent (blk 0x29 [] 0 0) halted) (noBlocks halted) ∧ (noBlocks halted).alert.halted = true
    ∧ Cmd.isRead .pause = false := ⟨⟨rfl, by decide⟩, rfl, rfl⟩

/-- READ-PEERS with a buffer, posted at 0x200. -/
def peersAt (buf len : Nat) : Block := { offset := 0x200, bytes := blockBytes 0x26 0 [] buf len }

theorem test_meets_halted_clauses :
    Serving .siteRestore (blk 6 [0, 1] 0 0) (inPlan (blk 6 [0, 1] 0 0) halted) (noBlocks halted)
    ∧ Serving .rewindLog (blk 0x23 [0, 1] 0 0) (inUrgent (blk 0x23 [0, 1] 0 0) halted) (noBlocks halted)
    ∧ Serving .snapshot (blk 0x27 [] 0 0) (inUrgent (blk 0x27 [] 0 0) halted) (noBlocks halted)
    ∧ Serving .raiseAlert (blk 0x2C [] 0 0) (inUrgent (blk 0x2C [] 0 0) halted) (noBlocks halted)
    ∧ Serving .clearAlert (blk 0x2D [] 0 0) (inUrgent (blk 0x2D [] 0 0) halted) (noBlocks halted) ∧ halted.alert.halted = true
    ∧ Serving .readSnapshot (blk 0x28 [] 0x800 79) (inUrgent (blk 0x28 [] 0x800 79) halted) (noBlocks halted)
    ∧ bufferOk (blk 0x28 [] 0x800 79) 80 = false :=
  ⟨⟨rfl, by decide⟩, ⟨rfl, by decide⟩, ⟨rfl, by decide⟩, ⟨rfl, by decide⟩, ⟨rfl, by decide⟩, rfl, ⟨rfl, by decide⟩, by decide⟩

theorem test_meets_WindowChecksInOrder :
    Serving .pause (blk 0x29 [0] 0 0) (inUrgent (blk 0x29 [0] 0 0) card) (noBlocks card)
    ∧ Cmd.operandLength .pause = some 0 ∧ (blk 0x29 [0] 0 0).opLength ≠ 0
    ∧ Serving .setProfile (blk 1 (List.replicate 49 0) 0 0) (inPlan (blk 1 (List.replicate 49 0) 0 0) card) (noBlocks card)
    ∧ 48 < (blk 1 (List.replicate 49 0) 0 0).opLength
    ∧ Serving .readPeers (peersAt 0xFF 88) (inUrgent (peersAt 0xFF 88) halted) (noBlocks halted) ∧ Cmd.isRead .readPeers = true
    ∧ Cmd.returnLength .readPeers = some 88
    ∧ ((peersAt 0xFF 88).bufOffset < 0x100 ∧ 0x1000 ≤ (peersAt 0x1000 0).bufOffset
      ∧ 0x1000 < (peersAt 0xFA9 88).bufOffset + (peersAt 0xFA9 88).bufLength ∧ (peersAt 0x800 87).bufLength < 88
      ∧ ((peersAt 0x1A9 88).bufLength ≠ 0 ∧ 0x200 < (peersAt 0x1A9 88).bufOffset + (peersAt 0x1A9 88).bufLength
        ∧ (peersAt 0x1A9 88).bufOffset < 0x200 + 64)) :=
  ⟨⟨rfl, by decide⟩, rfl, by decide, ⟨rfl, by decide⟩, by decide, ⟨rfl, by decide⟩, rfl, rfl, by decide⟩

/-- SET-PROFILE blocks: accepted, five windows, a wrong length, a value out of range. -/
def profileBlocks : List Block :=
  [blk 1 (profileOp 7 40 1) 0 0, blk 1 (profileOp 7 40 5) 0 0, blk 1 (profileOp 7 40 0) 0 0, blk 1 (profileOp 20 40 1) 0 0]

theorem test_meets_ProfileReplaced :
    (∀ b ∈ profileBlocks, Served .setProfile b (inPlan b card) (noBlocks card))
    ∧ (∀ b ∈ profileBlocks.take 1, Served .setProfile b (inPlan b (withSeq .paused card)) (noBlocks (withSeq .paused card)))
    ∧ (∀ b ∈ profileBlocks.take 1, Served .setProfile b (inPlan b planned) (noBlocks planned))
    ∧ ((noBlocks planned).store.steps[0]?).join ≠ none ∧ (∀ k, k < 128 → ((noBlocks card).store.steps[k]?).join = none)
    ∧ card.run.seq = .idle
    ∧ (profileBlocks.map fun b => (decide (4 < b.windowCount), decide (b.opLength = 28 + 4 * b.windowCount), (profileOperand b).inRange)) =
        [(false, true, true), (true, false, true), (false, false, true), (false, true, false)] := by
  refine ⟨?_, ?_, ?_, ?_, ?_, rfl, ?_⟩
  · intro b hb
    exact ⟨⟨rfl, by revert b; decide⟩, by revert b; decide +kernel⟩
  · intro b hb
    exact ⟨⟨rfl, by revert b; decide⟩, by revert b; decide +kernel⟩
  · intro b hb
    exact ⟨⟨rfl, by revert b; decide⟩, by revert b; decide +kernel⟩
  · decide +kernel
  · decide +kernel
  · decide +kernel

/-- DEFINE-STEP of a DWELL step at an index. -/
def dwellBlock (k : Nat) : Block := blk 2 (beBytes 1 k ++ [4, 0, 0, 1]) 0 0

/-- The card PAUSED in step 5. -/
def pausedAt5 : State := { card with run := { card.run with seq := .paused, current := some 5 } }

theorem test_meets_StepDefined :
    Served .defineStep (dwellBlock 127) (inPlan (dwellBlock 127) card) (noBlocks card)
    ∧ firstRefusal (defineStepChecks (dwellBlock 127) (noBlocks card)) = none
    ∧ Served .defineStep (dwellBlock 128) (inPlan (dwellBlock 128) card) (noBlocks card) ∧ 127 < (dwellBlock 128).stepIndex
    ∧ Served .defineStep (dwellBlock 127) (inPlan (dwellBlock 127) (withSeq .pausing card)) (noBlocks (withSeq .pausing card))
    ∧ Served .defineStep (dwellBlock 5) (inPlan (dwellBlock 5) pausedAt5) (noBlocks pausedAt5)
    ∧ (dwellBlock 5).stepIndex ≤ 5 ∧ firstRefusal (defineStepChecks (dwellBlock 6) (noBlocks pausedAt5)) = none :=
  ⟨servedPlan (by decide) (by decide), by decide +kernel, servedPlan (by decide) (by decide), by decide, servedPlan (by decide) (by decide),
    servedPlan (by decide) (by decide), by decide, by decide +kernel⟩

/-- Operands of DEFINE-STEP that meet rows 5 to 15 of R35 first, in their order, and one that meets none. -/
def refusedSteps : List (List Byte) :=
  [[0, 6], [0, 4, 0, 0], stepOp 1 2 1 1982 4 5 6 7 2, stepOp 1 2 3 0 4 5 0 7 1, stepOp 2 3 1 4096 4 5 13 8 0, stepOp 2 3 1 4096 4 5 6 16 0,
   [4, 4, 0, 0, 0], stepOp 1 2 1 1982 4 64 6 7 1, (stepOp 1 2 1 1982 4 5 6 7 1).set 16 0,
   (stepOp 1 2 1 1982 4 5 6 7 1).set 2 1 ++ [0, 0, 5, 0, 0, 5], stepOp 2 3 1 1982 4 5 6 16 0, stepOp 1 2 1 1982 4 5 6 7 1]

theorem test_meets_StepDefined_rows :
    (∀ op ∈ refusedSteps, Served .defineStep (blk 2 op 0 0) (inPlan (blk 2 op 0 0) card) (noBlocks card) ∧ StepPlace (blk 2 op 0 0) (noBlocks card))
    ∧ card.store.profile = some prof
    ∧ (refusedSteps.map fun op => firstRefusal (stepRefusals (blk 2 op 0 0) prof)) =
        [some .kindUnknown, some .operandLength, some .kindUnknown, some .granuleNotAllowed, some .wrapRange, some .baseRange,
         some .countRange, some .strideRange, some .repeatRange, some .limitOrder, some .binRange, none]
    ∧ Served .defineStep (dwellBlock 0) (inPlan (dwellBlock 0) State.reset) (noBlocks State.reset)
    ∧ StepPlace (dwellBlock 0) (noBlocks State.reset) ∧ (noBlocks State.reset).store.profile = none
    ∧ StepPlace (dwellBlock 6) (noBlocks pausedAt5) := by
  refine ⟨?_, rfl, by decide +kernel, servedPlan (by decide) (by decide), ⟨by decide, .inl rfl⟩, rfl, ⟨by decide, .inr ⟨rfl, 5, rfl, by decide⟩⟩⟩
  intro op h
  refine ⟨⟨⟨rfl, ?_⟩, ?_⟩, ?_, .inl rfl⟩ <;> revert op <;> decide +kernel

/-- DELETE-STEPS of a range. -/
def deleteBlock (a b : Byte) : Block := blk 3 [a, b] 0 0

theorem test_meets_StepsDeleted :
    Served .deleteSteps (deleteBlock 0 127) (inPlan (deleteBlock 0 127) card) (noBlocks card) ∧ (deleteBlock 0 127).op 1 ≤ 127
    ∧ Served .deleteSteps (deleteBlock 0 128) (inPlan (deleteBlock 0 128) card) (noBlocks card) ∧ 127 < (deleteBlock 0 128).op 1
    ∧ Served .deleteSteps (deleteBlock 3 2) (inPlan (deleteBlock 3 2) card) (noBlocks card)
    ∧ (deleteBlock 3 2).op 1 < (deleteBlock 3 2).op 0
    ∧ Served .deleteSteps (deleteBlock 5 5) (inPlan (deleteBlock 5 5) pausedAt5) (noBlocks pausedAt5) ∧ pausedAt5.run.seq ≠ .idle :=
  ⟨servedPlan (by decide) (by decide), by decide, servedPlan (by decide) (by decide), by decide, servedPlan (by decide) (by decide), by decide,
    servedPlan (by decide) (by decide), by decide⟩

/-- RUN of a range with a group value. -/
def runBlock (a b g : Byte) : Block := blk 4 [a, b, g] 0 0

/-- The card with a record in entry 127. -/
def lastPlanned : State := { card with store := { card.store with steps := card.store.steps.set 127 (some (.dwell 1)) } }

theorem test_meets_RunStarted :
    Served .run (runBlock 127 127 3) (inPlan (runBlock 127 127 3) lastPlanned) (noBlocks lastPlanned) ∧ HciQuiet (noBlocks lastPlanned)
    ∧ (noBlocks lastPlanned).run.seq = .idle ∧ (noBlocks lastPlanned).store.profile ≠ none
    ∧ runGroupOf ((runBlock 127 127 3).op 2) = some (some 3) ∧ runGroupOf ((runBlock 127 127 0xFF).op 2) = some none
    ∧ ((noBlocks lastPlanned).store.steps[127]?).join ≠ none ∧ (noBlocks lastPlanned).link.st = .up
    ∧ ¬ ((noBlocks lastPlanned).store.stopOption = .shutdown ∧ (noBlocks lastPlanned).alert.level = true) :=
  ⟨servedPlan (by decide) (by decide), ⟨rfl, rfl, rfl⟩, rfl, by decide, by decide, by decide, by decide +kernel, rfl, by decide⟩

theorem test_meets_RunRefusedInOrder :
    Served .run (runBlock 0 0 1) (inPlan (runBlock 0 0 1) pausedAt5) (noBlocks pausedAt5)
    ∧ Served .run (runBlock 0 0 1) (inPlan (runBlock 0 0 1) State.reset) (noBlocks State.reset)
    ∧ (noBlocks State.reset).store.profile = none
    ∧ Served .run (runBlock 0 128 1) (inPlan (runBlock 0 128 1) planned) (noBlocks planned) ∧ 127 < (runBlock 0 128 1).op 1
    ∧ Served .run (runBlock 0 0 4) (inPlan (runBlock 0 0 4) planned) (noBlocks planned) ∧ 4 ≤ (runBlock 0 0 4).op 2
    ∧ Served .run (runBlock 0 1 3) (inPlan (runBlock 0 1 3) planned) (noBlocks planned)
    ∧ ((noBlocks planned).store.steps[1]?).join = none
    ∧ (let s := { planned with link := { planned.link with st := .rolling } }
       Served .run (runBlock 0 0 0xFF) (inPlan (runBlock 0 0 0xFF) s) (noBlocks s) ∧ (noBlocks s).link.st ≠ .up)
    ∧ (let s := { planned with alert := { planned.alert with level := true } }
       Served .run (runBlock 0 0 0xFF) (inPlan (runBlock 0 0 0xFF) s) (noBlocks s) ∧ (noBlocks s).alert.level = true) :=
  ⟨servedPlan (by decide) (by decide), servedPlan (by decide) (by decide), rfl, servedPlan (by decide) (by decide), by decide,
    servedPlan (by decide) (by decide), by decide, servedPlan (by decide) (by decide), by decide +kernel,
    ⟨servedPlan (by decide) (by decide), by decide⟩, ⟨servedPlan (by decide) (by decide), rfl⟩⟩

theorem test_meets_SettingsAndResults :
    Served .setStopOption (blk 5 [0] 0 0) (inPlan (blk 5 [0] 0 0) pausedAt5) (noBlocks pausedAt5)
    ∧ Served .setStopOption (blk 5 [0] 0 0) (inPlan (blk 5 [0] 0 0) card) (noBlocks card) ∧ (blk 5 [0] 0 0).op 0 = 0
    ∧ Served .setStopOption (blk 5 [1] 0 0) (inPlan (blk 5 [1] 0 0) card) (noBlocks card) ∧ (blk 5 [1] 0 0).op 0 = 1
    ∧ Served .setStopOption (blk 5 [2] 0 0) (inPlan (blk 5 [2] 0 0) card) (noBlocks card) ∧ 2 ≤ (blk 5 [2] 0 0).op 0
    ∧ Served .siteRestore (blk 6 [0, 0] 0 0) (inPlan (blk 6 [0, 0] 0 0) card) (noBlocks card) ∧ (blk 6 [0, 0] 0 0).opMask = 0
    ∧ Served .siteRestore (blk 6 [0x80, 0] 0 0) (inPlan (blk 6 [0x80, 0] 0 0) card) (noBlocks card) ∧ (blk 6 [0x80, 0] 0 0).opMask ≠ 0
    ∧ Served .clearResults (blk 7 [] 0 0) (inPlan (blk 7 [] 0 0) card) (noBlocks card) :=
  ⟨servedPlan (by decide) (by decide), servedPlan (by decide) (by decide), by decide, servedPlan (by decide) (by decide), by decide,
    servedPlan (by decide) (by decide), by decide, servedPlan (by decide) (by decide), by decide, servedPlan (by decide) (by decide),
    by decide, servedPlan (by decide) (by decide)⟩

/-- A block with a buffer at 0x800 of a length. -/
def readBlock (code : Nat) (op : List Byte) (len : Nat) : Block := blk code op 0x800 len

theorem test_meets_RecordsRead :
    Memory.wf (inUrgent (readBlock 0x20 [] 96) card).cwc.mem = true ∧ postValid (readBlock 0x20 [] 96).offset = true
    ∧ Served .readStatus (readBlock 0x20 [] 96) (inUrgent (readBlock 0x20 [] 96) card) (noBlocks card)
    ∧ Served .readPeers (readBlock 0x26 [] 88) (inUrgent (readBlock 0x26 [] 88) card) (noBlocks card)
    ∧ Served .readResult (readBlock 0x25 [] 56) (inUrgent (readBlock 0x25 [] 56) card) (noBlocks card) ∧ card.run.seq = .idle
    ∧ Served .readResult (readBlock 0x25 [] 56) (inUrgent (readBlock 0x25 [] 56) pausedAt5) (noBlocks pausedAt5)
    ∧ Served .readSite (readBlock 0x21 [15] 36) (inUrgent (readBlock 0x21 [15] 36) card) (noBlocks card)
    ∧ (readBlock 0x21 [15] 36).op 0 = (15 : Site)
    ∧ Served .readSite (readBlock 0x21 [16] 36) (inUrgent (readBlock 0x21 [16] 36) card) (noBlocks card)
    ∧ 16 ≤ (readBlock 0x21 [16] 36).op 0
    ∧ Served .readBadBlocks (readBlock 0x24 [15] 132) (inUrgent (readBlock 0x24 [15] 132) card) (noBlocks card)
    ∧ (noBlocks card).sites[15].badBlocks.length ≤ 64
    ∧ Served .readBadBlocks (readBlock 0x24 [16] 132) (inUrgent (readBlock 0x24 [16] 132) card) (noBlocks card) :=
  ⟨rfl, by decide, servedUrgent (by decide) (by decide), servedUrgent (by decide) (by decide), servedUrgent (by decide) (by decide), rfl,
    servedUrgent (by decide) (by decide), servedUrgent (by decide) (by decide), by decide, servedUrgent (by decide) (by decide), by decide,
    servedUrgent (by decide) (by decide), by decide, servedUrgent (by decide) (by decide)⟩

theorem test_meets_FailLogReadAndRewound :
    Served .readFailLog (readBlock 0x22 [16, 1] 24) (inUrgent (readBlock 0x22 [16, 1] 24) card) (noBlocks card)
    ∧ 16 ≤ (readBlock 0x22 [16, 1] 24).op 0
    ∧ Served .readFailLog (readBlock 0x22 [15, 33] 600) (inUrgent (readBlock 0x22 [15, 33] 600) card) (noBlocks card)
    ∧ 32 < (readBlock 0x22 [15, 33] 600).op 1
    ∧ Served .readFailLog (readBlock 0x22 [15, 32] 519) (inUrgent (readBlock 0x22 [15, 32] 519) card) (noBlocks card)
    ∧ (readBlock 0x22 [15, 32] 519).bufLength < 8 + 16 * (readBlock 0x22 [15, 32] 519).op 1
    ∧ Served .readFailLog (readBlock 0x22 [15, 32] 520) (inUrgent (readBlock 0x22 [15, 32] 520) card) (noBlocks card)
    ∧ 8 + 16 * (readBlock 0x22 [15, 32] 520).op 1 ≤ (readBlock 0x22 [15, 32] 520).bufLength
    ∧ Served .rewindLog (blk 0x23 [0, 0] 0 0) (inUrgent (blk 0x23 [0, 0] 0 0) card) (noBlocks card) ∧ (blk 0x23 [0, 0] 0 0).opMask = 0
    ∧ Served .rewindLog (blk 0x23 [0, 1] 0 0) (inUrgent (blk 0x23 [0, 1] 0 0) card) (noBlocks card) ∧ (blk 0x23 [0, 1] 0 0).opMask ≠ 0 :=
  ⟨servedUrgent (by decide) (by decide), by decide, servedUrgent (by decide) (by decide), by decide, servedUrgent (by decide) (by decide),
    by decide, servedUrgent (by decide) (by decide), by decide, servedUrgent (by decide) (by decide), by decide,
    servedUrgent (by decide) (by decide), by decide⟩

theorem test_meets_SnapshotLatched :
    Served .snapshot (blk 0x27 [] 0 0) (inUrgent (blk 0x27 [] 0 0) card) (noBlocks card) ∧ (noBlocks card).timers.latch = none
    ∧ Served .readSnapshot (readBlock 0x28 [] 80) (inUrgent (readBlock 0x28 [] 80) card) (noBlocks card)
    ∧ Memory.wf card.cwc.mem = true ∧ postValid (readBlock 0x28 [] 80).offset = true
    ∧ (let s := setLatch (some (snapshotOf card)) card
       Served .snapshot (blk 0x27 [] 0 0) (inUrgent (blk 0x27 [] 0 0) s) (noBlocks s) ∧ (noBlocks s).timers.latch = some (snapshotOf card)
       ∧ Served .readSnapshot (readBlock 0x28 [] 80) (inUrgent (readBlock 0x28 [] 80) s) (noBlocks s)) :=
  ⟨servedUrgent (by decide) (by decide), rfl, servedUrgent (by decide) (by decide), rfl, by decide,
    ⟨servedUrgent (by decide) (by decide), rfl, servedUrgent (by decide) (by decide)⟩⟩

/-- A RUNNING card at a stage with nothing outstanding. -/
def runningAtStage (g : Stage) (guard : Nat) : State :=
  { card with run := { card.run with seq := .running, stage := g, guardRem := guard } }

/-- The PAUSE, RESUME and ABORT blocks. -/
def pauseB : Block := blk 0x29 [] 0 0
def resumeB : Block := blk 0x2A [] 0 0
def abortB : Block := blk 0x2B [] 0 0

/-- The card with an outstanding PAUSE block. -/
def pauseOut (s : State) : State := { s with cwc := { s.cwc with outPause := some pauseB } }

/-- The card in a run that is ending. -/
def ending (s : State) : State := { s with run := { s.run with seq := .running, ending := some .aborted } }

/-- A run in its start sequence, the CONTACT reply awaited, with a group. -/
def starting (g : Option Group) : State :=
  { card with
    hci := { card.hci with outstanding := some { request := .contactCheck, deadline := 500 } }
    run := { card.run with seq := .running, stage := .contact, group := g } }

/-- A pass waiting for its claim with a supply wait running. -/
def supplying : State :=
  { seeking 0 40 29 .waiting [(0, 40)] with
    run := { card.run with seq := .running, phase := .supply, stage := .supply, supplyRem := some 1 } }

/-- A card with its rail state and its giving-up flag set. -/
def railAt (st : RailState) (giving : Bool) (s : State) : State := { s with rail := { s.rail with st := st, givingUp := giving } }

/-- The states of a RUNNING run in which a PAUSE takes its several ways. -/
def pausable : List State :=
  [runningAtStage .dwell 1, runningAtStage .dwell 0, runningAtStage .sync 0, runningAtStage .supply 0, supplying, starting none, verifyState,
   railAt .holding false (runningAtStage .closing 0), railAt .waiting true (runningAtStage (.reenter true) 0),
   { railAt .holding false (runningAtStage .exit 0) with run := { (runningAtStage .exit 0).run with current := some 0 } }]

theorem test_meets_PauseTaken :
    (∀ s ∈ pausable, Served .pause pauseB (inUrgent pauseB s) (noBlocks s))
    ∧ (∀ s ∈ pausable, s.run.seq = .running ∧ s.run.ending = none ∧ s.cwc.outPause = none)
    ∧ (∀ s ∈ pausable.drop 1, s.run.guardRem = 0 ∧ (s.hci.outstanding ≠ none ∨ HciQuiet s))
    ∧ (∀ s ∈ (pausable.drop 1).take 4, HciQuiet s ∧ s.run.inflight = none)
    ∧ (runningAtStage .dwell 1).run.guardRem ≠ 0 ∧ (runningAtStage .supply 0).rail.st = .none ∧ (runningAtStage .supply 0).link.attempt = none
    ∧ (runningAtStage .supply 0).link.out = Outgoing.empty ∧ supplying.run.stage = .supply ∧ supplying.rail.st = .waiting
    ∧ linkSends supplying = true ∧ framePending supplying.link .withdraw = false
    ∧ onLine { (runningAtStage .supply 0).link with attempt := some { frame := .claim 1 0, replaced := false } } .claim = true
    ∧ verifyState.run.stage = .visits ∧ verifyState.run.inflight.map (·.kind) = some .compare ∧ (inUnitState 0).run.stage = .visits
    ∧ (inUnitState 0).run.inflight.map (·.mask.getLsbD 4) = some true ∧ (inUnitState 0).sites[4].busy = true
    ∧ ((starting none).store.steps[0]?).join = none ∧ (planned.store.steps[0]?).join = some (.dwell 1) := by
  refine ⟨?_, ?_⟩
  · intro s h
    exact servedUrgent (by decide) (by revert s; decide +kernel)
  · unfold HciQuiet
    decide +kernel

/-- The states of a PAUSING run that can come to rest at once, and one that gives its rail back first. -/
def settling : List State :=
  [runningAtStage .visits 0, { runningAtStage .visits 0 with run := { (runningAtStage .visits 0).run with passDemand := 5 } },
   runningAtStage .supply 0, runningAtStage (.reenter true) 0, runningAtStage (.reenter false) 0,
   { runningAtStage .begin 0 with run := { (runningAtStage .begin 0).run with record := some (.dwell 1) } }, runningAtStage .closing 0,
   railAt .holding false { runningAtStage .visits 0 with run := { (runningAtStage .visits 0).run with passDemand := 5 } }].map (withSeq .pausing)

/-- A PAUSING run at a step entry, a site ACTIVE. -/
def enteringPaused (g : Stage) (k : Nat) : State :=
  { planned with
    sites := planned.sites.set 3 (siteIn .active)
    run := { planned.run with seq := .pausing, stage := g, current := some k, last := 1 }
    store := { planned.store with steps := planned.store.steps.set 1 (some (.sync 1 .proceed)) } }

theorem test_meets_PausingSettles :
    (∀ s ∈ settling, s.run.seq = .pausing ∧ s.run.ending = none ∧ HciQuiet s ∧ s.run.inflight = none ∧ s.uag.ended = false)
    ∧ (settling.map fun s => (s.run.passDemand, railSettled s, s.rail.st, s.rail.givingUp)) =
        [(0, true, .none, false), (5, true, .none, false), (0, true, .none, false), (0, true, .none, false), (0, true, .none, false),
         (0, true, .none, false), (0, true, .none, false), (5, false, .holding, false)]
    ∧ (∀ s ∈ settling, linkSends s = true ∧ framePending s.link .release = false)
    ∧ (∀ s ∈ [enteringPaused (.enter 1) 0, enteringPaused .exit 0], s.run.seq = .pausing ∧ s.run.ending = none ∧ HciQuiet s
        ∧ s.run.inflight = none ∧ (s.store.steps[1]?).join = some (.sync 1 .proceed) ∧ activeCount s ≠ 0
        ∧ stepDraw s.profile (.sync 1 .proceed) = 0 ∧ s.rail.st = .none ∧ s.run.current = some 0 ∧ 1 ≤ s.run.last) := by
  unfold HciQuiet
  decide +kernel

theorem test_meets_RunCommandsRefused :
    Served .pause pauseB (inUrgent pauseB card) (noBlocks card) ∧ Served .resume resumeB (inUrgent resumeB card) (noBlocks card)
    ∧ Served .abort abortB (inUrgent abortB card) (noBlocks card) ∧ card.run.seq = .idle
    ∧ Served .pause pauseB (inUrgent pauseB (ending card)) (noBlocks (ending card))
    ∧ Served .resume resumeB (inUrgent resumeB (ending card)) (noBlocks (ending card)) ∧ (ending card).run.ending ≠ none
    ∧ Served .pause pauseB (inUrgent pauseB (pauseOut verifyState)) (noBlocks (pauseOut verifyState))
    ∧ (pauseOut verifyState).cwc.outPause ≠ none
    ∧ Served .pause pauseB (inUrgent pauseB pausedAt5) (noBlocks pausedAt5) ∧ pausedAt5.run.seq = .paused
    ∧ Served .resume resumeB (inUrgent resumeB verifyState) (noBlocks verifyState) ∧ verifyState.run.heldPause = false
    ∧ (let s := { verifyState with cwc := { verifyState.cwc with outAbort := some abortB } }
       Served .abort abortB (inUrgent abortB s) (noBlocks s) ∧ (noBlocks s).cwc.outAbort ≠ none) :=
  ⟨servedUrgent (by decide) (by decide), servedUrgent (by decide) (by decide), servedUrgent (by decide) (by decide), rfl,
    servedUrgent (by decide) (by decide), servedUrgent (by decide) (by decide), by decide, servedUrgent (by decide) (by decide), by decide,
    servedUrgent (by decide) (by decide), rfl, servedUrgent (by decide) (by decide), rfl, ⟨servedUrgent (by decide) (by decide), by decide⟩⟩

theorem test_meets_ResumeTaken :
    (let s := pauseOut { verifyState with run := { verifyState.run with heldPause := true, guardRem := 1 } }
     Served .resume resumeB (inUrgent resumeB s) (noBlocks s) ∧ (noBlocks s).run.ending = none ∧ (noBlocks s).run.seq = .running
     ∧ (noBlocks s).run.heldPause = true ∧ (noBlocks s).cwc.outPause = some pauseB)
    ∧ (let s := pauseOut (withSeq .pausing verifyState)
       Served .resume resumeB (inUrgent resumeB s) (noBlocks s) ∧ (noBlocks s).run.seq = .pausing ∧ (noBlocks s).rail.givingUp = false
       ∧ (noBlocks s).run.heldSyncPass = false ∧ (noBlocks s).cwc.outPause = some pauseB)
    ∧ (let s := pauseOut (railAt .waiting true (withSeq .pausing (runningAtStage .supply 0)))
       Served .resume resumeB (inUrgent resumeB s) (noBlocks s) ∧ (noBlocks s).run.seq = .pausing ∧ (noBlocks s).rail.givingUp = true
       ∧ (noBlocks s).run.heldSyncPass = false ∧ (noBlocks s).cwc.outPause = some pauseB)
    ∧ (let s := withSeq .paused (runningAtStage .dwell 0)
       Served .resume resumeB (inUrgent resumeB s) (noBlocks s) ∧ HciQuiet (noBlocks s) ∧ (noBlocks s).run.inflight = none
       ∧ (noBlocks s).run.stage = .dwell ∧ (noBlocks s).run.heldSyncPass = false)
    ∧ (let s := withSeq .paused { meeting with run := { meeting.run with heldSyncPass := true } }
       Served .resume resumeB (inUrgent resumeB s) (noBlocks s) ∧ (noBlocks s).run.seq = .paused ∧ (noBlocks s).run.stage = .sync
       ∧ (noBlocks s).run.heldSyncPass = true) :=
  ⟨⟨servedUrgent (by decide) (by decide), rfl, rfl, rfl, rfl⟩, ⟨servedUrgent (by decide) (by decide), rfl, rfl, rfl, rfl⟩,
    ⟨servedUrgent (by decide) (by decide), rfl, rfl, rfl, rfl⟩, ⟨servedUrgent (by decide) (by decide), ⟨rfl, rfl, rfl⟩, rfl, rfl, rfl⟩,
    ⟨servedUrgent (by decide) (by decide), rfl, rfl, rfl⟩⟩

/-- The card entering a PROGRAM step with sites 0 to 2 ACTIVE. -/
def entering : State :=
  { card with
    sites := ((card.sites.set 0 (siteIn .active)).set 1 (siteIn .active)).set 2 (siteIn .active)
    run := { card.run with
      record := some (.program { granule := .page, base := 0, count := 1, stride := 1, dir := .up, wrap := 0, repeats := 1 }
        { mode := .solid, seed := 0 } none 7 .retire) } }

/-- A RUNNING card at a stage with the record of its step. -/
def atRecord (g : Stage) (rec : StepRecord) (s : State) : State :=
  { s with run := { s.run with seq := .running, stage := g, record := some rec, passes := 1, members := [maskOf fun _ => true] } }

/-- The card in the only pass of the drawing step of `entering`. -/
def drawing (g : Stage) (pass : Nat) (s : State) : State :=
  { s with
    run := { s.run with seq := .running, stage := g, passes := 1, pass := pass, members := [maskOf fun _ => true], restarted := true
                        passDemand := 8 }
    uag := { loaded := true, load := UagLoad.blank, r := 0, v := 0, u := none, ended := false } }

theorem test_meets_RunGoesOn :
    (∀ s ∈ [atRecord .begin (.dwell 1) card, atRecord .begin (.sync 1 .proceed) meeting, drawing .begin 0 entering, drawing .passStart 0 entering,
        drawing (.reenter true) 1 entering, drawing (.reenter false) 1 card, railAt .none true (drawing (.reenter false) 1 card),
        railAt .holding false (drawing .supply 1 entering), drawing .visits 1 entering,
        railAt .holding false { drawing .visits 1 entering with uag := { (drawing .visits 1 entering).uag with ended := true } }],
      s.run.seq = .running ∧ s.run.ending = none ∧ HciQuiet s ∧ s.run.inflight = none)
    ∧ passingCondition meeting 1 (meeting.sync.markCount + 1) = false ∧ meeting.sync.ownGroup = some 1 ∧ linkSends meeting = true
    ∧ (let s := drawing .passStart 0 entering
       s.run.pass < s.run.passes ∧ s.rail.st = .none ∧ s.rail.givingUp = false ∧ activeMembers (s.withRun { s.run with pass := 1 }) = 3
       ∧ currentDraw s = 180 ∧ (3 * 180 + 24) / 25 ≤ currentLimit s ∧ s.run.record.map (firstPhaseOf s.profile) = some .supply
       ∧ currentLimit { s with link := { s.link with effBudget := 8 } } < (3 * 180 + 24) / 25)
    ∧ activeMembers (drawing .passStart 0 card) = 0 ∧ activeMembers (drawing (.reenter true) 1 entering) = 3
    ∧ activeMembers (drawing (.reenter false) 1 card) = 0 ∧ (drawing (.reenter false) 1 card).rail.givingUp = false
    ∧ (drawing .visits 1 entering).uag.loaded = true ∧ (drawing .visits 1 entering).run.passDemand ≠ 0
    ∧ firstPhaseOf { prof with programDraw := 0 } (.program { granule := .page, base := 0, count := 1, stride := 1, dir := .up, wrap := 0, repeats := 1 }
        { mode := .solid, seed := 0 } none 7 .retire) = .operate := by
  unfold HciQuiet
  decide +kernel

/-- The address part of a step on pages. -/
def pages : AddrPart := { granule := .page, base := 1925, count := 4, stride := 3, dir := .up, wrap := 6, repeats := 1 }

/-- A pass paused in SUPPLY before its restart, none of whose members is ACTIVE at the RESUME: the position is the ended one of the pass
before. -/
def emptied : State :=
  { drawing (.reenter true) 1 card with
    run := { (drawing (.reenter true) 1 card).run with restarted := false }
    uag := { loaded := true, load := UagLoad.blank, r := 1, v := 1, u := some 5, ended := true } }

theorem test_meets_RunGoesOn_reentry :
    emptied.run.seq = .running ∧ emptied.run.ending = none ∧ HciQuiet emptied ∧ emptied.run.inflight = none
    ∧ emptied.run.stage = .reenter true ∧ activeMembers emptied = 0 ∧ emptied.rail.givingUp = false ∧ emptied.run.restarted = false
    ∧ emptied.uag.loaded = true
    ∧ (nextAction emptied).map (fun t => (t.uag.r, t.uag.ended, t.run.phase, t.run.passDemand)) = some (0, false, .operate, 0) := by
  unfold HciQuiet
  decide +kernel

/-- The card of `entering` about to enter step 1 of a run to step 1. -/
def enteringStep (rec : StepRecord) (s : State) : State :=
  { s with
    run := { s.run with seq := .running, stage := .enter 1, first := 1, last := 1, current := some 0 }
    store := { s.store with steps := s.store.steps.set 1 (some rec) } }

/-- The records of the five kinds. -/
def fiveKinds : List StepRecord :=
  [.erase pages none 7 .logOnly, .program pages { mode := .solid, seed := 0 } (some { low := 3, high := 9 }) 7 .retire,
   .verify pages { mode := .solid, seed := 0 } 7 false, .dwell 1, .sync 1 .proceed]

theorem test_meets_RunGoesOn_entry :
    (∀ rec ∈ fiveKinds, ∀ s ∈ [enteringStep rec entering, enteringStep rec card],
      s.run.seq = .running ∧ s.run.ending = none ∧ HciQuiet s ∧ s.run.inflight = none ∧ (s.store.steps[1]?).join = some rec)
    ∧ entering.sites[0].state = .active ∧ (∀ i : Site, card.sites[i].state ≠ .active)
    ∧ (let s := enteringStep (.program pages { mode := .solid, seed := 0 } none 7 .retire) entering
       stepDraw s.profile (.program pages { mode := .solid, seed := 0 } none 7 .retire) ≠ 0
       ∧ passSelection (activeCount s) 180 (currentLimit s) = some (3, 1)
       ∧ passSelection (activeCount s) 180 (currentLimit { s with link := { s.link with effBudget := 7 } }) = none)
    ∧ (∀ g ∈ [Stage.exit, .closing, .passStart, .contact, .dwell, .sync, .supply],
       (runningAtStage g 0).run.seq = .running ∧ (runningAtStage g 0).run.ending = none ∧ HciQuiet (runningAtStage g 0)
       ∧ (runningAtStage g 0).run.inflight = none ∧ (runningAtStage g 0).rail.st = .none
       ∧ (railAt .holding true (runningAtStage g 0)).rail.st ≠ .none ∧ (runningAtStage g 0).run.passes ≤ (runningAtStage g 0).run.pass)
    ∧ (drawing .visits 1 { entering with run := { entering.run with current := some 0 } }).run.current = some 0 := by
  unfold HciQuiet
  decide +kernel

/-- Section 3.4's window: stride 3 in the 64 pages from 1920, entered by an ERASE step. -/
theorem test_R63_entry :
    ((nextAction (enteringStep (.erase pages none 7 .logOnly) entering)).map fun t =>
      (t.run.current, t.uag.load.h, t.uag.load.w, t.uag.load.e, t.timers.timed.map (·.limits) == some t.profile.eraseLimits)) =
        some (some 1, 1920, 6, 3, true)
    ∧ (nextAction (enteringStep (.dwell 1) card)).map (fun t => (t.run.ending, t.run.current)) = some (some .noSites, some 0)
    ∧ (nextAction { runningAtStage .exit 0 with run := { (runningAtStage .exit 0).run with current := some 3, last := 4 } }).map (fun t =>
        (t.run.stage, t.run.stepsCompleted)) = some (.enter 4, 1) := by decide +kernel

theorem test_meets_AbortEndsRun :
    Served .abort abortB (inUrgent abortB pausedAt5) (noBlocks pausedAt5) ∧ pausedAt5.run.seq ≠ .idle ∧ pausedAt5.run.ending = none
    ∧ pausedAt5.cwc.outAbort = none ∧ HciQuiet (noBlocks pausedAt5)
    ∧ Served .abort abortB (inUrgent abortB verifyState) (noBlocks verifyState) ∧ verifyState.run.ending = none
    ∧ verifyState.hci.outstanding.isSome = true
    ∧ Served .abort abortB (inUrgent abortB (ending card)) (noBlocks (ending card)) ∧ (ending card).run.ending = some .aborted :=
  ⟨servedUrgent (by decide) (by decide), by decide, rfl, rfl, ⟨rfl, rfl, rfl⟩, servedUrgent (by decide) (by decide), rfl, rfl,
    servedUrgent (by decide) (by decide), rfl⟩

theorem test_meets_AlertLatched :
    Served .raiseAlert (blk 0x2C [] 0 0) (inUrgent (blk 0x2C [] 0 0) card) (noBlocks card)
    ∧ Served .clearAlert (blk 0x2D [] 0 0) (inUrgent (blk 0x2D [] 0 0) card) (noBlocks card) :=
  ⟨servedUrgent (by decide) (by decide), servedUrgent (by decide) (by decide)⟩

theorem test_R78_resume_points :
    resumePoint (drawing .visits 1 entering) = some { phase := .supply, pass := 1 }
    ∧ resumePoint (drawing .closing 1 entering) = some { phase := .supply, pass := 2 }
    ∧ resumePoint (starting none) = none ∧ resumePoint (enteringPaused (.enter 1) 0) = some { phase := .sync, pass := 0 }
    ∧ resumePoint (enteringPaused .exit 1) = none := by decide +kernel
theorem test_R140_next_pass_waits_for_release :
    let s := railAt .holding true (drawing (.reenter false) 1 card)
    nextAction s = none ∧ nextAction (railAt .none false s) ≠ none := by decide +kernel

/-- The states of an ending run whose teardown goes its several ways. -/
def tearing : List State :=
  [railAt .holding false meeting, railAt .waiting false meeting, meeting, railAt .none false card, halted].map ending

theorem test_meets_TeardownCarriedOut :
    (∀ s ∈ tearing, s.run.seq ≠ .idle ∧ s.run.ending = some .aborted ∧ HciQuiet s ∧ s.run.inflight = none ∧ s.run.teardown = .abandon)
    ∧ (tearing.map fun s => (linkSends s, s.rail.st, s.sync.ownGroup)) =
        [(true, .holding, some 1), (true, .waiting, some 1), (true, .none, some 1), (true, .none, none), (false, .none, none)]
    ∧ (∀ s ∈ tearing, s.link.out = Outgoing.empty ∧ s.link.attempt = none ∧ framePending s.link .release = false ∧ framePending s.link .withdraw = false)
    ∧ (let s := { meeting with run := { meeting.run with teardown := .frames } }
       s.rail.givingUp = false ∧ framePending s.link .leave = false ∧ (railAt .holding true s).rail.givingUp = true
       ∧ s.rail.st = .none ∧ framePending s.link .claim = false ∧ framePending s.link .wait = false) := by
  unfold HciQuiet
  decide +kernel

/-- A run with its RUN, ABORT and PAUSE blocks outstanding, the RUN block with a result buffer at 0xF00. -/
def allOut : State :=
  { verifyState with cwc := { verifyState.cwc with
    outRun := some { offset := 0x140, bytes := blockBytes 4 1 [0, 0, 0xFF] 0xF00 56 }
    outAbort := some { offset := 0x180, bytes := blockBytes 0x2B 0 [] 0 0 }
    outPause := some { offset := 0x1C0, bytes := blockBytes 0x29 1 [] 0 0 } } }

/-- The queues of a card with empty queues are in order when its outstanding blocks stand at valid offsets. -/
theorem queuesBounded_of_empty {s : State} (hu : s.cwc.urgent = []) (hp : s.cwc.plan = [])
    (h : (heldBlocks s.cwc).all fun b => postValid b.offset) : QueuesBounded s := by
  refine ⟨by simp [hu], by simp [hp], ?_, ?_, fun b hb => List.all_eq_true.mp h b hb⟩ <;> intro b hb <;> simp [hu, hp] at hb

theorem test_meets_RunEnded : EndCause.headLink ≠ .cardReset ∧ MemoryCanonical allOut ∧ QueuesBounded allOut
    ∧ (∃ a b c, allOut.cwc.outRun = some a ∧ allOut.cwc.outAbort = some b ∧ allOut.cwc.outPause = some c
        ∧ a.offset ≠ b.offset ∧ a.offset ≠ c.offset ∧ b.offset ≠ c.offset
        ∧ 0x100 ≤ a.bufOffset ∧ a.bufOffset + 56 ≤ 0x1000 ∧ ∀ x ∈ [a, b, c], x.offset + 64 ≤ a.bufOffset) :=
  ⟨by decide, rfl, queuesBounded_of_empty rfl rfl (by decide), _, _, _, rfl, rfl, rfl, by decide, by decide, by decide, by decide, by decide,
    by decide⟩

theorem test_meets_CardResetApplied :
    Served .cardReset (blk 0x2E [] 0 0) (inUrgent (blk 0x2E [] 0 0) card) (noBlocks card) ∧ card.run.seq = .idle
    ∧ Served .cardReset (blk 0x2E [] 0 0) (inUrgent (blk 0x2E [] 0 0) allOut) (noBlocks allOut) ∧ allOut.run.seq ≠ .idle
    ∧ allOut.run.ending = none ∧ MemoryCanonical (inUrgent (blk 0x2E [] 0 0) allOut) ∧ QueuesBounded (inUrgent (blk 0x2E [] 0 0) allOut)
    ∧ (∀ x ∈ heldBlocks (noBlocks allOut).cwc ++ [blk 0x2E [] 0 0], x.offset + 64 ≤ 0xF00)
    ∧ (heldBlocks (noBlocks allOut).cwc ++ [blk 0x2E [] 0 0]).Pairwise (fun x y => x.offset ≠ y.offset) := by
  refine ⟨servedUrgent (by decide) (by decide), rfl, servedUrgent (by decide) (by decide), by decide, rfl, rfl, ?_, by decide, by decide⟩
  refine ⟨by decide, by decide, ?_, ?_, ?_⟩
  · intro b hb
    rw [List.mem_singleton.mp hb]
    exact ⟨by decide, .cardReset, by decide, rfl⟩
  · intro b hb
    cases hb
  · decide

theorem test_meets_ContactApplied :
    (starting none).hci.outstanding = some { request := .contactCheck, deadline := 500 } ∧ (starting none).run.ending = none
    ∧ (starting none).run.group = none ∧ (starting (some 3)).run.group = some 3
    ∧ ((starting none).sites[15].state ≠ .tripped ∧ (0x8000 : SiteMask).getLsbD 15 = true)
    ∧ (∀ i : Site, (starting none).sites[i].state = .tripped ∨ (0 : SiteMask).getLsbD i = false)
    ∧ (ending (starting none)).run.ending ≠ none := by decide +kernel

theorem test_meets_UnawaitedRepliesStray :
    card.hci.outstanding = none ∧ (starting none).hci.outstanding.map (·.request.kind) = some .contactCheck
    ∧ verifyState.hci.outstanding.map (·.request.kind) = some .compare := ⟨rfl, rfl, rfl⟩

/-- The unit of `inUnitState` resolves with the last READY, and with an ACCEPT that finds its only site TRIPPED. -/
theorem test_R9_unit_resolves :
    (after (exec (.ready 0x0260 9) (inUnitState 0))).run.inflight.isSome = true
    ∧ (after (exec (.ready 0x0270 9) (inUnitState 0))).run.inflight = none
    ∧ (let s := { card with
         sites := card.sites.set 4 (siteIn .tripped)
         hci := { card.hci with outstanding := some { request := .operate .page 11 150 0x10 none, deadline := 200 } }
         run := { card.run with
           seq := .pausing, stage := .visits, passDemand := 0
           inflight := some { kind := .operate false, step := 1, rep := 1, granule := .page, unit := 150, mask := 0x10 } } }
       (after (exec .accept s)).run.inflight = none) := by decide +kernel

theorem test_meets_AcceptTaken_unit :
    (∀ f ∈ (inUnitState 0).run.inflight, f.kind = .operate true ∧ f.mask.getLsbD 4 = true) ∧ (inUnitState 0).sites[4].busy = true
    ∧ HciQuiet (inUnitState 0) ∧ (inUnitState 0).run.seq = .running ∧ (inUnitState 0).run.ending = none ∧ (inUnitState 0).run.stage = .visits
    ∧ (∀ f ∈ verifyState.run.inflight, f.kind ≠ .operate true) ∧ verifyState.hci.outstanding ≠ none
    ∧ (∀ i : Site, { inUnitState 0 with sites := card.sites }.sites[i].busy = false) := by
  unfold HciQuiet
  decide +kernel

theorem test_meets_AcceptTaken :
    (let s := { inUnitState 0 with hci := { card.hci with
        outstanding := some { request := .operate .page 11 150 0x0270 none, deadline := 200 } } }
     s.hci.outstanding = some { request := .operate .page 11 150 0x0270 none, deadline := 200 } ∧ s.sites[4].state ≠ .tripped
     ∧ (0x0270 : SiteMask).getLsbD 4 = true ∧ (0x0270 : SiteMask).getLsbD 15 = false)
    ∧ { card with hci := { card.hci with outstanding := some { request := .drop 1, deadline := 1 } } }.hci.outstanding =
        some { request := .drop 1, deadline := 1 }
    ∧ { card with hci := { card.hci with outstanding := some { request := .abandon, deadline := 1 } } }.hci.outstanding =
        some { request := .abandon, deadline := 1 } := by decide +kernel

/-- Entries of a RESULT: two name site 0, one a site outside the mask, one has no fail bits. -/
def entriesOf : List ResultEntry :=
  [{ site := 0, failBits := 3, offset := 0 }, { site := 0, failBits := 65535, offset := 0 }, { site := 15, failBits := 1, offset := 0 },
   { site := 1, failBits := 0, offset := 0 }]

theorem test_meets_ResultTaken :
    verifyState.hci.outstanding = some { request := .compare .block 16 10 3 { mode := .solid, seed := 0 }, deadline := 10000 }
    ∧ verifyState.run.inflight = some { kind := .compare, step := 5, rep := 1, granule := .block, unit := 10, mask := 3 }
    ∧ verifyState.hci.strays ≤ 65535
    ∧ handedEntry 3 entriesOf verifyState 0 = some { site := 0, failBits := 3, offset := 0 } ∧ handedEntry 3 entriesOf verifyState 15 = none
    ∧ handedEntry 3 entriesOf verifyState 1 = none ∧ handedEntry 3 entriesOf verifyState 2 = none
    ∧ blockOf verifyState.profile .block 10 = some 10 ∧ 10 ∉ verifyState.sites[0].badBlocks ∧ verifyState.sites[0].badBlocks.length < 64
    ∧ verifyState.sites[0].state = .active ∧ verifyState.profile.allowance < verifyState.sites[0].badBlocks.length + 1
    ∧ ¬ verifyState.profile.allowance < verifyState.sites[1].badBlocks.length + 1
    ∧ 10 ∈ { verifyState.sites[0] with badBlocks := [8, 9, 10] }.badBlocks
    ∧ (let set := (List.range 64).map (· + 11); 10 ∉ set ∧ 64 ≤ set.length) := by decide +kernel

theorem test_R13_first_entry_counts :
    let t := after (exec (.result entriesOf) verifyState)
    t.sites[0].failBits = 50 ∧ t.sites[0].log.length = 1 ∧ t.hci.strays = 3 := by decide +kernel

theorem test_meets_ReadyJudged :
    (∀ i : Site, (inUnitState 0).sites[i].busy = (inUnitState 0).timers.running[i]) ∧ (inUnitState 0).hci.strays ≤ 65535
    ∧ (inUnitState 0).timers.timed = some { step := 1, limits := { low := 2000, high := 30000 }, action := .retire, bin := 7 }
    ∧ (inUnitState 0).run.inflight.isSome = true ∧ (inUnitState 0).sites[4].busy = true ∧ (inUnitState 0).sites[0].busy = false
    ∧ (inUnitState 0).timers.values[4] + 1999 < 2000 ∧ 2000 ≤ (inUnitState 0).timers.values[4] + 2000
    ∧ (∀ i : Site, pausedAt5.sites[i].busy = pausedAt5.timers.running[i]) ∧ pausedAt5.timers.timed = none ∧ pausedAt5.run.inflight = none
    ∧ (∀ i : Site, pausedAt5.sites[i].busy = false) := by decide +kernel

theorem test_meets_SiteTripped :
    (card.sites.set 0 (siteIn .tripped))[0].state = .tripped ∧ (inUnitState 0).sites[4].state ≠ .tripped ∧ (inUnitState 0).sites[4].bin = 0
    ∧ (inUnitState 0).store.profile = some prof ∧ State.reset.store.profile = none
    ∧ (inUnitState 0).run.inflight.map (fun u => (u.mask.getLsbD 4, u.mask.getLsbD 15)) = some (true, false)
    ∧ (inUnitState 0).hci.outstanding = none ∧ (inUnitState 0).hci.held = none ∧ verifyState.hci.outstanding.isSome = true := by decide +kernel

theorem test_meets_HeadFaultTaken :
    pausedAt5.run.seq ≠ .idle ∧ pausedAt5.run.ending = none ∧ HciQuiet pausedAt5 ∧ card.run.seq = .idle ∧ HciQuiet card
    ∧ card.run.inflight = none ∧ verifyState.hci.outstanding.isSome = true ∧ verifyState.run.seq ≠ .idle ∧ verifyState.run.ending = none :=
  ⟨by decide, rfl, ⟨rfl, rfl, rfl⟩, rfl, ⟨rfl, rfl, rfl⟩, rfl, rfl, by decide, rfl⟩

theorem test_meets_DeadlinePassed :
    card.hci.outstanding = none ∧ verifyState.hci.outstanding.isSome = true ∧ verifyState.hci.err = none ∧ verifyState.run.seq ≠ .idle
    ∧ verifyState.run.ending = none ∧ verifyState.hci.held = none ∧ verifyState.hci.pendingDrop = 0 := by decide

theorem test_meets_HighLimitExpired :
    (inUnitState 0).timers.running[9] = true ∧ (inUnitState 0).timers.timed.isSome = true ∧ (inUnitState 0).run.inflight.isSome = true
    ∧ (inUnitState 0).sites[9].state = .active ∧ (inUnitState 0).hci.outstanding = none
    ∧ { inUnitState 0 with hci := verifyState.hci }.hci.outstanding.isSome = true := by decide +kernel

theorem test_meets_RunningTimesEnd :
    (runningAtStage .dwell 0).run.seq = .running ∧ (runningAtStage .dwell 0).run.ending = none ∧ (runningAtStage .dwell 0).run.stage = .dwell
    ∧ meeting.run.seq = .running ∧ meeting.run.stage = .sync ∧ meeting.run.syncRem = some 20000 ∧ meeting.sync.awaited = some 1
    ∧ meeting.sync.ownGroup = some 1 ∧ meeting.run.record = some (.sync 200 .endRun) ∧ HciQuiet meeting
    ∧ supplying.run.seq = .running ∧ supplying.run.stage = .supply ∧ supplying.run.supplyRem = some 1 ∧ HciQuiet supplying
    ∧ supplying.rail.st = .waiting ∧ linkSends supplying = true ∧ supplying.rail.seeking = true
    ∧ (atRecord .sync (.sync 200 .proceed) meeting).run.record = some (.sync 200 .proceed)
    ∧ (atRecord .sync (.sync 200 .proceed) meeting).run.stage = .sync ∧ (ending meeting).run.ending ≠ none
    ∧ (ending supplying).run.ending = some .aborted :=
  ⟨rfl, rfl, rfl, rfl, rfl, rfl, rfl, rfl, rfl, ⟨rfl, rfl, rfl⟩, rfl, rfl, rfl, ⟨rfl, rfl, rfl⟩, rfl, rfl, rfl, rfl, rfl, by decide, rfl⟩

theorem test_meets_RunningTimesEnd_guard :
    (runningAtStage .dwell 1).run.guardRem ≠ 0 ∧ (runningAtStage .dwell 1).run.heldPause = false
    ∧ (let s := pauseOut { runningAtStage .dwell 1 with run := { (runningAtStage .dwell 1).run with heldPause := true } }
       s.run.guardRem ≠ 0 ∧ s.run.heldPause = true ∧ s.run.seq = .running ∧ s.run.ending = none ∧ s.run.stage = .dwell
       ∧ s.run.inflight = none ∧ s.cwc.outPause = some pauseB)
    ∧ (let s := { State.reset with link := { State.reset.link with rollWindow := some 1 } }
       s.link.rollWindow = some 1 ∧ s.link.st = .rolling) := by decide

theorem test_meets_UnitSequence :
    (let x := uagOf 4094 3 3 0 2 .up
     x.ended = false ∧ x.r = 0 ∧ 1 ≤ x.load.count ∧ 1 ≤ x.load.repeats ∧ 5 < x.load.count * x.load.repeats
     ∧ x.load.h = x.load.base - x.load.base % 2 ^ x.load.w ∧ x.load.dir = .up)
    ∧ (let x := uagOf 1925 3 9 6 1 .down
       x.load.h % 2 ^ x.load.w = 0 ∧ 63 < 2 ^ x.load.w ∧ x.load.e < 2 ^ x.load.w ∧ x.load.dir = .down) := by decide

theorem test_meets_PassesSelected_plan :
    currentDraw entering ≠ 0 ∧ passSelection (activeCount entering) (currentDraw entering) (currentLimit entering) = some (3, 1)
    ∧ (let s := { entering with link := { entering.link with effBudget := 7 } }
       currentDraw s ≠ 0 ∧ passSelection (activeCount s) (currentDraw s) (currentLimit s) = none) := by decide +kernel

theorem test_meets_PassesSelected : passSelection 16 500 320 = some (16, 1) ∧ passSelection 1 26 1 = none ∧ passSelection 16 25 1 = some (1, 16)
    ∧ 15 < 16 := by decide

/-- The card in pass 1 of a step on sectors, every site a member. -/
def visiting (st : SiteState) : State :=
  { card with
    sites := card.sites.set 15 (siteIn st)
    run := { card.run with seq := .running, stage := .visits, pass := 1, members := [maskOf fun _ => true] }
    uag := { uagOf 0 1 1 0 1 .up with load := { (uagOf 0 1 1 0 1 .up).load with granule := .sector } } }

theorem test_meets_VisitsClassed :
    visitExcluded (visiting .active) 32 = true
    ∧ (visitExcluded (visiting .done) 31 = false ∧ visitMask (visiting .done) .sector 31 = 0)
    ∧ (visitExcluded (visiting .active) 31 = false ∧ visitMask (visiting .active) .sector 31 ≠ 0)
    ∧ (visiting .active).hci.outstanding = none ∧ (visiting .active).hci.held = none ∧ (visiting .active).hci.pendingDrop = 0 := by
  decide +kernel

/-- The card with a frame on the line and in its outgoing set, at an objection count. -/
def sending (f : Frame) (n : Nat) (r : RailState) : State :=
  { card with
    link := { card.link with out := Outgoing.empty.put f, attempt := some { frame := f, replaced := false }, objections := n }
    rail := { card.rail with st := r } }

theorem test_meets_AttemptsMade :
    linkSends halted = false ∧ (sending .withdraw 0 .waiting).link.attempt ≠ none ∧ card.link.out = Outgoing.empty
    ∧ linkSends State.reset = true ∧ State.reset.link.attempt = none ∧ State.reset.link.out ≠ Outgoing.empty := by decide

theorem test_meets_AttemptsMade_ended :
    (sending .withdraw 6 .waiting).link.attempt = some { frame := .withdraw, replaced := false }
    ∧ (sending .withdraw 6 .waiting).link.objections < 7 ∧ (sending .withdraw 6 .waiting).link.out.has .withdraw = true
    ∧ (sending .withdraw 7 .waiting).run.ending = none ∧ (sending .withdraw 7 .waiting).hci.outstanding = none
    ∧ (sending .withdraw 7 .waiting).hci.held = none ∧ (sending .withdraw 7 .waiting).hci.pendingDrop = 0
    ∧ 7 ≤ (sending .withdraw 7 .waiting).link.objections ∧ linkSends (sending .withdraw 7 .waiting) = true
    ∧ (let s := withSeq .paused (sending .withdraw 7 .waiting)
       s.run.seq ≠ .idle ∧ s.run.ending = none ∧ s.hci.outstanding = none ∧ s.hci.held = none ∧ s.hci.pendingDrop = 0) := by decide

theorem test_meets_RailFramesTallied : linkHears card = true ∧ linkHears { card with link := { card.link with st := .mute } } = true
    ∧ (1 : BitVec 16).toNat = 1 ∧ (1023 : BitVec 16).toNat ≤ 1023 ∧ (127 : Byte).toNat ≤ 127
    ∧ (0 : Station) ∈ supplying.rail.waiters ∧ (1 : Station) ∉ supplying.rail.waiters := by decide

theorem test_meets_EntryFramesTaken :
    linkHears card = true ∧ (1023 : BitVec 16).toNat ≤ 1023 ∧ (1023 : BitVec 12).toNat ≤ 1023 ∧ (128 : Byte).toNat ≤ 128 := by decide

theorem test_meets_OwnFramesCarried :
    (sending (.wait 1023) 0 .none).link.attempt = some { frame := .wait (1023 : BitVec 16).toNat, replaced := false }
    ∧ (sending (.claim 1 127) 0 .none).link.attempt =
        some { frame := .claim (1 : BitVec 16).toNat (127 : Byte).toNat, replaced := false }
    ∧ (sending (.release 1) 0 .holding).link.attempt = some { frame := .release (1 : BitVec 16).toNat, replaced := false }
    ∧ (sending .withdraw 0 .waiting).link.attempt = some { frame := .withdraw, replaced := false }
    ∧ linkSends (sending .withdraw 0 .waiting) = true
    ∧ (let s := after (exec .frameStart State.reset)
       s.link.st = .rolling ∧ s.link.attempt = some { frame := .roll (64 : BitVec 16).toNat, replaced := false })
    ∧ linkSends card = true ∧ card.link.attempt = none := by decide +kernel

/-- One frame of each kind with the own number 0. -/
def ownFrames : List Instr :=
  [.release 0 1, .withdraw 0, .leave 0 3, .state 0 1023 8, .roll 0 1023, .mark 0 0 128, .wait 0 1023, .claim 0 1 127]

theorem test_meets_OwnFramesCarried_unsent :
    (∀ c ∈ ownFrames, (frameOf c).map (·.1) = some card.link.own)
    ∧ (∀ c ∈ ownFrames, (sending (.wait 40) 0 .none).link.attempt.map (·.frame) ≠ (frameOf c).map (·.2))
    ∧ linkSends (sending (.wait 40) 0 .none) = true
    ∧ pausedAt5.run.seq ≠ .idle ∧ pausedAt5.run.ending = none ∧ HciQuiet pausedAt5 := by
  unfold HciQuiet
  decide +kernel

/-- Every kind of frame with the own number mutes a station that did not send it, and one that it beats. -/
theorem test_R125_own_number_mutes :
    ∀ c ∈ ownFrames, (after (exec c card)).link.st = .mute ∧ (after (exec c (sending (.wait 40) 7 .none))).link.st = .mute
      ∧ (after (exec c (sending (.wait 40) 7 .none))).link.objections = 7 := by decide +kernel

theorem test_meets_ClaimRuleActed :
    (let s := seeking 0 35 29 .none []
     s.rail.ownDemand = some 35 ∧ s.rail.seeking = true ∧ s.rail.givingUp = false ∧ s.link.st = .up ∧ s.rail.st ≠ .holding
     ∧ claimRule s 35 = true ∧ s.link.out.claim.map (·.1) ≠ some 35
     ∧ (let u := { s with link := { s.link with out := { s.link.out with claim := some (35, 0) } } }
        claimRule u 35 = true ∧ u.link.out.claim.map (·.1) = some 35))
    ∧ (let s := seeking 0 36 29 .none []; claimRule s 36 = false ∧ s.rail.st = .none ∧ s.link.out.wait = none)
    ∧ (let s := seeking 0 40 29 .waiting [(0, 40)]; claimRule s 40 = false ∧ s.rail.st ≠ .none)
    ∧ (seeking 0 35 29 .holding []).rail.st = .holding := by decide

theorem test_meets_RollAnswered :
    (64 : BitVec 16).toNat ≤ 1023 ∧ (3 : Station) ≠ supplying.link.own ∧ linkSends supplying = true ∧ supplying.rail.st = .waiting
    ∧ supplying.peers[supplying.link.own].need = some 40 ∧ meeting.sync.ownGroup = some 1 ∧ linkSends meeting = true ∧ card.sync.ownGroup = none
    ∧ (after (exec .frameStart State.reset)).link.attempt = some { frame := .roll (64 : BitVec 16).toNat, replaced := false }
    ∧ linkSends (after (exec .frameStart State.reset)) = true
    ∧ (let s := { card with link := { card.link with st := .mute } }
       s.link.st = .mute ∧ s.link.out = Outgoing.empty ∧ s.link.attempt = none ∧ s.link.objections ≤ 7) := by decide +kernel

/-- The station of `meeting` with station 5 at mark 1 as well, so that its condition holds. -/
def met : State := { meeting with peers := meeting.peers.set 5 { Peer.absent with present := true, group := some 1, lastMark := some 1 } }

theorem test_meets_SyncStepMarked :
    passingCondition met 1 1 = true ∧ passingCondition meeting 1 1 = false
    ∧ met.run.seq = .running ∧ met.run.ending = none ∧ met.run.stage = .sync ∧ (runningAtStage .sync 0).sync.ownGroup = none
    ∧ met.sync.ownGroup = some 1 ∧ met.sync.awaited = some 1 ∧ linkSends met = true ∧ (withSeq .paused met).run.seq = .paused
    ∧ (ending met).run.ending ≠ none ∧ card.sync.awaited = none ∧ card.sync.ownGroup = none ∧ card.run.group = none
    ∧ (let s := { met with sync := { met.sync with ownGroup := none } }
       s.sync.ownGroup = none ∧ s.run.group = some 1 ∧ s.sync.awaited = some 1 ∧ passingCondition s 1 1 = true)
    ∧ (linkHears meeting = true ∧ (5 : Station) ≠ meeting.link.own ∧ (1 : Byte).toNat ≤ 128)
    ∧ meeting.withPeers (meeting.peers.set 5 { meeting.peers[5] with present := true, group := some 1, lastMark := some 1 }) = met
    ∧ passingCondition (meeting.withPeers (meeting.peers.set 5 { meeting.peers[5] with present := true, group := some 1, lastMark := some 0 })) 1 1
        = false := by decide +kernel

theorem test_R162_pass_held :
    let t := after (exec (.mark 5 1 1) (withSeq .paused meeting))
    t.run.seq = .paused ∧ t.run.heldSyncPass = true ∧ t.sync.awaited = none := by decide +kernel

/-- The same in a paused run whose ABANDON is awaited: the report is held there too. -/
theorem test_R162_pass_held_ending :
    let t := after (exec (.mark 5 1 1) { withSeq .paused (ending meeting) with
      hci := { card.hci with outstanding := some { request := .abandon, deadline := 5 } } })
    t.run.seq = .paused ∧ t.run.ending ≠ none ∧ t.run.heldSyncPass = true ∧ t.sync.awaited = none := by decide +kernel

theorem test_meets_LinesTaken :
    (let s := { card with store := { card.store with stopOption := .ignore } }
     s.alert.level = false ∧ s.alert.halted = false ∧ s.store.stopOption = .ignore)
    ∧ (card.alert.level = false ∧ card.alert.halted = false ∧ card.store.stopOption = .shutdown ∧ card.run.seq = .idle ∧ card.run.inflight = none)
    ∧ (pausedAt5.alert.level = false ∧ pausedAt5.store.stopOption = .shutdown ∧ pausedAt5.run.seq ≠ .idle ∧ pausedAt5.run.ending = none
      ∧ pausedAt5.hci.outstanding = none ∧ pausedAt5.hci.held = none ∧ pausedAt5.hci.pendingDrop = 0)
    ∧ (halted.alert.level = false ∧ halted.alert.halted = true)
    ∧ { card with alert := { card.alert with level := true } }.alert.level = true ∧ alertDrive card.alert = false := by decide

theorem test_meets_RailFailHalts :
    halted.alert.halted = true ∧ card.alert.halted = false ∧ card.run.seq = .idle ∧ verifyState.alert.halted = false
    ∧ verifyState.run.seq ≠ .idle ∧ verifyState.run.ending = none := by decide

/-- The hypotheses of the step invariants are met together on the card, whose step is a tick. -/
theorem test_meets_invariants :
    MemoryCanonical card ∧ ClaimJustified (after (exec (.release 1 29) (seeking 0 40 29 .waiting [(0, 40), (2, 20)])))
    ∧ HaltedIsStill halted ∧ TablesInRange card ∧ CountsInRange card ∧ QueuesBounded card ∧ FlagsTogether (inUnitState 0)
    ∧ SilentWhenMute card ∧ ActiveUnbinned (starting none) ∧ (∃ t, step card = .next t) ∧ (∃ t, step halted = .next t) ∧ (∃ t, step (inUnitState 0) = .next t) := by
  refine ⟨rfl, ?_, ?_, ?_, ?_, ?_, ?_, ?_, ?_, ⟨_, rfl⟩, ⟨_, rfl⟩, ⟨_, rfl⟩⟩
  · intro u k h
    have hc : (after (exec (.release 1 29) (seeking 0 40 29 .waiting [(0, 40), (2, 20)]))).link.out.claim = some (40, 0) := by decide +kernel
    rw [hc] at h
    cases h
    decide +kernel
  · unfold HaltedIsStill
    decide +kernel
  · refine ⟨?_, List.nodup_nil, ?_, by decide, by decide, by decide⟩
    · intro x
      have h : card.peers[x] = Peer.absent ∨ card.peers[x] = { Peer.absent with present := true, budget := some 64 } := by
        revert x
        decide +kernel
      rcases h with h | h <;> rw [h] <;> unfold goodPeer Peer.absent <;> simp
    · decide +kernel
  · refine ⟨?_, by decide, by decide, by decide, by decide⟩
    intro i
    have h : card.sites[i] = SiteRec.reset := by
      revert i
      decide +kernel
    rw [h]
    unfold goodAccount
    decide
  · exact queuesBounded_of_empty rfl rfl rfl
  · unfold FlagsTogether
    decide +kernel
  · refine ⟨?_, by decide, by decide⟩
    decide
  · refine ⟨?_, by decide, ?_⟩
    · decide +kernel
    · intro _
      refine ⟨by decide, fun _ => rfl, fun h => absurd rfl h, ?_, ?_⟩
      · intro h
        cases h
      · decide +kernel

theorem test_meets_ClaimFitsBudget :
    (let s := { seeking 0 40 0 .none [] with link := { card.link with out := Outgoing.empty.put (.claim 40 0) } }
     s.rail.ownDemand = some 40 ∧ claimRule s 40 = true ∧ s.link.attempt = none
     ∧ (after (exec .frameStart s)).link.attempt = some { frame := .claim 40 0, replaced := false }) := by decide +kernel

theorem test_meets_BinsStand :
    (let s := { card with sites := card.sites.set 3 { siteIn .retired with bin := 7 } }
     (∀ j : Site, s.sites[j].state = .active → s.sites[j].bin = 0) ∧ s.sites[3].bin ≠ 0) := by decide +kernel

end Sys2Proof.Tests
end

section
/-! What the card's own machinery is made of: a few elementary moves, and the fact that settling is a chain of them. An invariant of the
card is then shown once for each move. -/

namespace Sys2Proof.Machine

/-- One elementary move of the card's own machinery. Every own action of a step (R62 to R80) is a chain of these. -/
inductive Move : State → State → Prop
  /-- The mainframe side: link, peer table, rail share and Sync Unit. -/
  | link (s : State) (l : Link) (p : Vector Peer 8) (r : Rail) (y : SyncUnit) :
      Move s { s with link := l, peers := p, rail := r, sync := y }
  /-- The run record; a run does not become IDLE by it. -/
  | run (s : State) (x : Run) (h : x.seq = .idle → s.run.seq = .idle) : Move s { s with run := x }
  | uag (s : State) (x : Uag) : Move s { s with uag := x }
  | timed (s : State) (x : Option TimedStep) : Move s { s with timers := { s.timers with timed := x } }
  /-- The step statistics and the unit-failed marks of the sites. -/
  | marks (s : State) (f : SiteRec → SiteRec)
      (h : ∀ x, f x = { x with stats := (f x).stats, unitFailed := (f x).unitFailed }) : Move s (mapSites f s)
  /-- A request of a visit or an ABANDON held by the HCI. -/
  | hold (s : State) (r : Request) (hc : r ≠ .contactCheck) (hd : ∀ m, r ≠ .drop m) :
      Move s { s with hci := { s.hci with held := some r } }
  /-- The HCI sends what is due. -/
  | send (s t : State) (h : hciDue s = some t) : Move s t
  | finishRun (s : State) (r : Response) : Move s (finishRun r s)
  | finishAbort (s : State) (r : Response) : Move s (finishAbort r s)
  | finishPause (s : State) (r : Response) : Move s (finishPause r s)
  | writeBytes (s : State) (a : Nat) (bs : List Byte) : Move s (writeBytes a bs s)
  /-- The end of a run, up to the completion of its blocks. -/
  | close (s : State) (cause : EndCause) : Move s (closeRun cause s)

/-- A chain of elementary moves. -/
abbrev Moves : State → State → Prop := Relation.ReflTransGen Move

/-- What every elementary move keeps, a chain of them keeps. -/
theorem Moves.keeps {P : State → Prop} (h : ∀ s t, Move s t → P s → P t) {s t : State} (hm : Moves s t) (hs : P s) : P t := by
  induction hm with
  | refl => exact hs
  | tail _ hb ih => exact h _ _ hb ih

/-- One chain after another, the last one first. -/
theorem Moves.after {s t u : State} (h' : Moves t u) (h : Moves s t) : Moves s u := .trans h h'

/-! ## The mainframe side -/

/-- Nothing but the mainframe side differs: link, peer table, rail share and Sync Unit. -/
def LinkSideOnly (s t : State) : Prop :=
  ∃ (l : Link) (p : Vector Peer 8) (r : Rail) (y : SyncUnit), t = { s with link := l, peers := p, rail := r, sync := y }

theorem LinkSideOnly.refl (s : State) : LinkSideOnly s s := ⟨s.link, s.peers, s.rail, s.sync, rfl⟩

theorem LinkSideOnly.trans {s t u : State} (h : LinkSideOnly s t) (h' : LinkSideOnly t u) : LinkSideOnly s u := by
  obtain ⟨_, _, _, _, rfl⟩ := h
  obtain ⟨l, p, r, y, rfl⟩ := h'
  exact ⟨l, p, r, y, rfl⟩

theorem LinkSideOnly.moves {s t : State} (h : LinkSideOnly s t) : Moves s t := by
  obtain ⟨l, p, r, y, rfl⟩ := h
  exact .single (.link s l p r y)

theorem linkSideOnly_link (l : Link) (s : State) : LinkSideOnly s { s with link := l } := ⟨l, s.peers, s.rail, s.sync, rfl⟩
theorem linkSideOnly_rail (r : Rail) (s : State) : LinkSideOnly s { s with rail := r } := ⟨s.link, s.peers, r, s.sync, rfl⟩
theorem linkSideOnly_sync (y : SyncUnit) (s : State) : LinkSideOnly s { s with sync := y } := ⟨s.link, s.peers, s.rail, y, rfl⟩

theorem linkSideOnly_updPeer (x : Station) (f : Peer → Peer) (s : State) : LinkSideOnly s (updPeer x f s) :=
  ⟨s.link, _, s.rail, s.sync, rfl⟩

theorem linkSideOnly_handFrame (f : Frame) (s : State) : LinkSideOnly s (handFrame f s) := by
  unfold handFrame
  split
  · exact linkSideOnly_link _ s
  · exact .refl s

theorem linkSideOnly_removeFrame (k : FrameKind) (s : State) : LinkSideOnly s (removeFrame k s) := linkSideOnly_link _ s

theorem linkSideOnly_ite {c : Prop} [Decidable c] {s t u : State} (ht : LinkSideOnly s t) (hu : LinkSideOnly s u) :
    LinkSideOnly s (if c then t else u) := by
  split
  · exact ht
  · exact hu

theorem linkSideOnly_evaluateClaim (s : State) : LinkSideOnly s (evaluateClaim s) := by
  unfold evaluateClaim
  split
  · exact .refl s
  next d _ =>
    have claim : LinkSideOnly s (if s.link.out.claim.map (·.1) = some d then s else handFrame (.claim d (claimStep s)) s) :=
      linkSideOnly_ite (.refl s) (linkSideOnly_handFrame _ s)
    refine linkSideOnly_ite (linkSideOnly_ite ?_ ?_) (.refl s)
    · exact linkSideOnly_ite (claim.trans (linkSideOnly_removeFrame _ _)) claim
    · exact linkSideOnly_ite ((linkSideOnly_removeFrame _ s).trans (linkSideOnly_handFrame _ _)) (linkSideOnly_removeFrame _ s)

theorem linkSideOnly_seekDemand (d : Nat) (s : State) : LinkSideOnly s (seekDemand d s) :=
  (linkSideOnly_rail _ s).trans (linkSideOnly_evaluateClaim _)

theorem linkSideOnly_handDemand (d : Nat) (s : State) : LinkSideOnly s (handDemand d s) :=
  linkSideOnly_ite (linkSideOnly_rail _ s) (linkSideOnly_seekDemand d s)

theorem linkSideOnly_endGiveUp (s : State) : LinkSideOnly s (endGiveUp s) := by
  unfold endGiveUp
  dsimp only
  split
  · exact (linkSideOnly_rail _ s).trans (linkSideOnly_seekDemand _ _)
  · exact linkSideOnly_rail _ s

theorem linkSideOnly_giveBack (s : State) : LinkSideOnly s (giveBack s) := by
  unfold giveBack
  split
  · exact linkSideOnly_ite (.refl s) (linkSideOnly_handFrame _ s)
  · exact linkSideOnly_ite (.refl s) (linkSideOnly_handFrame _ s)
  · exact .refl s

theorem linkSideOnly_giveUpSteps (s : State) : LinkSideOnly s (giveUpSteps s) := by
  have back := linkSideOnly_giveBack s
  exact linkSideOnly_ite (linkSideOnly_ite (back.trans (linkSideOnly_endGiveUp _))
    (linkSideOnly_ite back (back.trans (linkSideOnly_rail _ _)))) (.refl s)

theorem linkSideOnly_giveUp (s : State) : LinkSideOnly s (giveUp s) :=
  (((linkSideOnly_rail _ s).trans (linkSideOnly_removeFrame _ _)).trans (linkSideOnly_removeFrame _ _)).trans
    (linkSideOnly_giveUpSteps _)

theorem linkSideOnly_releasePass (s : State) : LinkSideOnly s (releasePass s) :=
  linkSideOnly_ite ((linkSideOnly_rail _ s).trans (linkSideOnly_handFrame _ _)) (.refl s)

theorem linkSideOnly_attemptFailed (k : FrameKind) (s : State) : LinkSideOnly s (attemptFailed k s) := by
  unfold attemptFailed
  refine .trans ?_ (linkSideOnly_giveUpSteps _)
  split
  · exact linkSideOnly_ite (linkSideOnly_evaluateClaim s) (linkSideOnly_removeFrame _ s)
  · exact linkSideOnly_ite (.refl s) (linkSideOnly_removeFrame _ s)
  · exact .refl s

theorem linkSideOnly_joinGroup (g : Group) (s : State) : LinkSideOnly s (joinGroup g s) :=
  (linkSideOnly_sync _ s).trans (linkSideOnly_handFrame _ _)

theorem linkSideOnly_syncTimedOut (s : State) : LinkSideOnly s (syncTimedOut s) := by
  unfold syncTimedOut
  split
  · exact linkSideOnly_sync _ s
  · exact .refl s

theorem linkSideOnly_leaveGroup (s : State) : LinkSideOnly s (leaveGroup s) := by
  unfold leaveGroup
  split
  · exact .refl s
  · exact ((linkSideOnly_sync _ s).trans (linkSideOnly_removeFrame _ _)).trans (linkSideOnly_handFrame _ _)

/-! ## The head and the end of a run -/

theorem moves_run {s : State} (x : Run) (h : x.seq = .idle → s.run.seq = .idle) : Moves s { s with run := x } :=
  .single (.run s x h)

theorem moves_uag (x : Uag) (s : State) : Moves s { s with uag := x } := .single (.uag s x)

theorem moves_ite {c : Prop} [Decidable c] {s t u : State} (ht : Moves s t) (hu : Moves s u) : Moves s (if c then t else u) := by
  split
  · exact ht
  · exact hu

theorem moves_hciPump (s : State) : Moves s (hciPump s) := by
  unfold hciPump
  cases h : hciDue s with
  | none => exact .refl
  | some t => exact .single (.send s t h)

/-- A request of a visit, or an ABANDON, handed to the HCI. -/
theorem moves_handRequest {r : Request} (hc : r ≠ .contactCheck) (hd : ∀ m, r ≠ .drop m) (s : State) : Moves s (handRequest r s) :=
  .trans (.single (.hold s r hc hd)) (moves_hciPump _)

theorem moves_handAbandon (s : State) : Moves s (handAbandon s) := by
  refine .trans ?_ (moves_handRequest (by simp) (by simp) _)
  exact moves_ite (moves_run _ id) .refl

theorem moves_endRun (cause : EndCause) (s : State) : Moves s (endRun cause s) := by
  have mark : Moves s { s with run := { s.run with ending := some cause, teardown := .abandon } } := moves_run _ id
  exact moves_ite .refl (moves_ite mark (mark.trans (moves_handAbandon _)))

theorem moves_unitDue {s t : State} (h : unitDue s = some t) : Moves s t := by
  unfold unitDue at h
  split at h
  · split at h
    · cases h
      exact moves_run _ id
    · cases h
  · cases h

/-! ## The Sync Unit's reports -/

theorem moves_syncPassed (s : State) : Moves s (syncPassed s) := by
  unfold syncPassed
  split
  · exact moves_ite (moves_run _ id) .refl
  · exact moves_run _ id
  · exact moves_run _ id
  · exact .refl

theorem moves_evaluateSync (s : State) : Moves s (evaluateSync s) := by
  unfold evaluateSync
  split
  · exact moves_ite ((linkSideOnly_sync _ s).moves.trans (moves_syncPassed _)) .refl
  · exact .refl

theorem moves_markStep (s : State) : Moves s (markStep s) := by
  unfold markStep
  split
  · exact moves_syncPassed s
  · exact ((linkSideOnly_sync _ s).trans (linkSideOnly_handFrame _ _)).moves.trans (moves_evaluateSync _)

/-! ## Steps, passes and visits -/

/-- The request of a visit is an OPERATE or a COMPARE. -/
theorem visitRequest_kind (s : State) (u : Nat) (mask : SiteMask) :
    visitRequest s u mask ≠ .contactCheck ∧ ∀ m, visitRequest s u mask ≠ .drop m := by
  unfold visitRequest
  dsimp only
  split <;> simp

theorem moves_issueVisit (u : Nat) (mask : SiteMask) (s : State) : Moves s (issueVisit u mask s) := by
  have clear : Moves s (clearUnitFailed s) := .single (.marks s _ fun _ => rfl)
  obtain ⟨hc, hd⟩ := visitRequest_kind (clearUnitFailed s) u mask
  exact Moves.after (moves_handRequest hc hd _) (Moves.after (moves_run _ id) clear)

theorem moves_takeVisit (u : Nat) (s : State) : Moves s (takeVisit u s) := by
  have count : Moves s { s with run := { s.run with produced := s.run.produced + 1 } } := moves_run _ id
  exact moves_ite (count.trans (moves_run _ id))
    (moves_ite (count.trans (moves_run _ id)) (count.trans (moves_issueVisit _ _ _)))

theorem moves_advanceVisit (s : State) : Moves s (advanceVisit s) := by
  unfold advanceVisit
  split
  · exact (moves_uag _ s).trans (moves_takeVisit _ _)
  · exact moves_uag _ s

theorem moves_restartUag (s : State) : Moves s (restartUag s) :=
  .trans (moves_uag (if s.uag.loaded then { s.uag with r := 0, v := 0, u := none, ended := false } else s.uag) s)
    (moves_run { s.run with restarted := true } id)

theorem moves_timeStep (k : Nat) (rec : StepRecord) (s : State) : Moves s (timeStep k rec s) := by
  have load : ∀ t : TimedStep, Moves s (clearStats { s with timers := { s.timers with timed := some t } }) := fun t =>
    .trans (.single (.timed s (some t))) (.single (.marks _ _ fun _ => rfl))
  cases rec with
  | erase | program => exact load _
  | verify | dwell | sync => exact .refl

theorem moves_formPassPlan (s : State) : Moves s (formPassPlan s) := by
  unfold formPassPlan
  split
  · exact moves_run _ id
  · split
    · exact moves_endRun _ s
    · exact moves_run _ id

theorem moves_beginStep (rec : StepRecord) (s : State) : Moves s (beginStep rec s) := by
  unfold beginStep
  split
  · exact moves_ite ((moves_uag _ s).trans (moves_run _ id)) ((moves_uag _ s).trans (moves_formPassPlan _))
  · exact moves_uag _ s

theorem moves_enterStep (k : Nat) (rec : StepRecord) (s : State) : Moves s (enterStep k rec s) :=
  moves_ite (moves_endRun _ s) (Moves.after (moves_beginStep rec _) (Moves.after (moves_timeStep k rec _) (moves_run _ id)))

theorem moves_runVisits (p : Phase) (s : State) : Moves s (runVisits p s) := by
  have enter : Moves s { s with run := { s.run with phase := p, stage := .visits } } := moves_run _ id
  exact moves_ite enter (enter.trans (moves_restartUag _))

theorem moves_beginPhase (rec : StepRecord) (s : State) : Moves s (beginPhase rec s) := by
  cases rec with
  | erase | program => exact moves_ite (Moves.after (moves_runVisits _ _) (moves_run _ id)) (moves_run _ id)
  | verify => exact Moves.after (moves_runVisits _ _) (moves_run { s.run with pass := 1, restarted := false } id)
  | dwell t => exact moves_run _ id
  | sync t a => exact Moves.after (moves_markStep _) (moves_run _ id)

theorem moves_claimForPass (reload : Bool) (s : State) : Moves s (claimForPass reload s) := by
  have enter : Moves s { s with run := { s.run with
      phase := .supply, stage := .supply, passDemand := railDemand (activeMembers s) (currentDraw s) } } := moves_run _ id
  refine moves_ite (enter.trans (moves_endRun _ _)) (.trans ?_ (linkSideOnly_handDemand _ _).moves)
  exact moves_ite (enter.trans (moves_run _ id)) enter

theorem moves_startPass (s : State) : Moves s (startPass s) := by
  have next : Moves s { s with run := { s.run with
      pass := s.run.pass + 1, phase := .supply, passDemand := 0, restarted := false } } := moves_run _ id
  exact moves_ite (moves_run _ id) (moves_ite next (next.trans (moves_claimForPass _ _)))

theorem moves_reenterSupply (b : Bool) (s : State) : Moves s (reenterSupply b s) :=
  moves_ite (Moves.after (moves_runVisits _ _) (moves_run _ id)) (moves_claimForPass _ s)

theorem moves_endPass (s : State) : Moves s (endPass s) := by
  have release : Moves s (if (s.run.passDemand != 0) = true then releasePass s else s) :=
    moves_ite (linkSideOnly_releasePass s).moves .refl
  exact moves_ite (release.trans (moves_run _ id)) (release.trans (moves_run _ id))

theorem moves_exitStep (s : State) : Moves s (exitStep s) := by
  have count : Moves s { s with run := { s.run with stepsCompleted := s.run.stepsCompleted + 1, pass := 0 } } := moves_run _ id
  exact moves_ite (count.trans (moves_endRun _ _)) (count.trans (moves_run _ id))

/-! ## The end of a run -/

theorem moves_finishBlocks (cause : EndCause) (s : State) : Moves s (finishBlocks cause s) := by
  have chain : ∀ r a p : Response, Moves s (finishPause p (finishAbort a (finishRun r s))) := fun r a p =>
    .tail (.tail (.single (.finishRun s r)) (.finishAbort _ a)) (.finishPause _ p)
  exact moves_ite (chain _ _ _) (chain _ _ _)

theorem moves_writeRunResult (s : State) : Moves s (writeRunResult s) := by
  unfold writeRunResult
  split
  · exact .refl
  · exact moves_ite .refl (.single (.writeBytes s _ _))

theorem moves_finishRunEnd (cause : EndCause) (s : State) : Moves s (finishRunEnd cause s) :=
  .trans (.trans (.single (.close s cause)) (moves_writeRunResult _)) (moves_finishBlocks _ _)

theorem moves_teardownDue {cause : EndCause} {s t : State} (h : teardownDue cause s = some t) : Moves s t := by
  unfold teardownDue at h
  split at h <;> repeat' split at h
  all_goals first | cases h; done | skip
  · cases h; exact moves_finishRunEnd _ _
  · cases h
    exact Moves.after ((linkSideOnly_giveUp _).trans (linkSideOnly_leaveGroup _)).moves (moves_run _ id)
  · cases h; exact moves_finishRunEnd _ _

/-! ## The sequencer -/

theorem moves_becomePaused (stage : Stage) (s : State) : Moves s (becomePaused stage s) :=
  .tail (moves_run _ (by simp)) (.finishPause _ .ok)

theorem moves_enterDue {k : Nat} {s t : State} (h : enterDue k s = some t) : Moves s t := by
  unfold enterDue at h
  split at h
  · cases h; exact moves_enterStep _ _ _
  · cases h

theorem moves_runningDue {s t : State} (h : runningDue s = some t) : Moves s t := by
  unfold runningDue at h
  cases hs : s.run.stage with
  | idle | contact | dwell | sync => simp [hs] at h
  | enter k => simp only [hs] at h; exact moves_enterDue h
  | begin =>
    simp only [hs, Option.map_eq_some_iff] at h
    obtain ⟨rec, _, rfl⟩ := h
    exact moves_beginPhase _ _
  | passStart => simp only [hs, Option.some.injEq] at h; subst h; exact moves_startPass s
  | reenter b =>
    simp only [hs, Option.ite_none_left_eq_some, Option.some.injEq] at h
    obtain ⟨_, rfl⟩ := h
    exact moves_reenterSupply _ s
  | supply =>
    simp only [hs, Option.ite_none_right_eq_some, Option.some.injEq] at h
    obtain ⟨_, rfl⟩ := h
    exact moves_runVisits _ s
  | visits =>
    simp only [hs, Option.ite_none_left_eq_some] at h
    obtain ⟨_, h⟩ := h
    split at h
    · simp only [Option.ite_none_left_eq_some, Option.some.injEq] at h
      obtain ⟨_, rfl⟩ := h
      exact moves_endPass s
    · simp only [Option.ite_none_right_eq_some, Option.some.injEq] at h
      obtain ⟨_, rfl⟩ := h
      exact moves_advanceVisit s
  | closing =>
    simp only [hs, Option.ite_none_right_eq_some, Option.some.injEq] at h
    obtain ⟨_, rfl⟩ := h
    exact moves_run _ id
  | exit =>
    simp only [hs, Option.ite_none_right_eq_some, Option.some.injEq] at h
    obtain ⟨_, rfl⟩ := h
    exact moves_exitStep s

theorem moves_pausingDue {s t : State} (h : pausingDue s = some t) : Moves s t := by
  unfold pausingDue at h
  cases hs : s.run.stage with
  | idle | contact => simp [hs] at h
  | enter k => simp only [hs] at h; exact moves_enterDue h
  | begin | passStart | dwell | sync => simp only [hs, Option.some.injEq] at h; subst h; exact moves_becomePaused _ s
  | reenter b =>
    simp only [hs, Option.ite_none_left_eq_some, Option.some.injEq] at h
    obtain ⟨_, rfl⟩ := h
    exact moves_becomePaused _ s
  | supply =>
    simp only [hs, Option.ite_none_right_eq_some, Option.some.injEq] at h
    obtain ⟨_, rfl⟩ := h
    exact moves_becomePaused _ s
  | visits =>
    simp only [hs, Option.ite_none_left_eq_some] at h
    obtain ⟨_, h⟩ := h
    repeat' split at h
    · cases h; exact moves_endPass s
    · cases h; exact moves_becomePaused _ s
    · cases h; exact moves_becomePaused _ s
    · cases h
    · cases h; exact (linkSideOnly_giveUp s).moves
    · cases h
  | closing =>
    simp only [hs, Option.ite_none_right_eq_some, Option.some.injEq] at h
    obtain ⟨_, rfl⟩ := h
    exact moves_run _ id
  | exit =>
    simp only [hs, Option.ite_none_right_eq_some, Option.some.injEq] at h
    obtain ⟨_, rfl⟩ := h
    exact moves_exitStep s

theorem moves_sequencerDue {s t : State} (h : sequencerDue s = some t) : Moves s t := by
  unfold sequencerDue at h
  split at h
  · cases h
  · exact moves_teardownDue h
  · exact moves_runningDue h
  · obtain ⟨u, hu, rfl⟩ := Option.map_eq_some_iff.mp h
    exact (moves_pausingDue hu).trans (moves_run _ id)
  · cases h

theorem moves_nextAction {s t : State} (h : nextAction s = some t) : Moves s t := by
  rcases nextAction_cases h with h | ⟨_, h⟩ | ⟨_, _, h⟩
  · exact .single (.send s t h)
  · exact moves_unitDue h
  · exact moves_sequencerDue h

/-- Settling is a chain of elementary moves. -/
theorem moves_settle (s : State) : Moves s (settle s) :=
  settle_keeps (P := Moves s) (fun _ _ h hs => hs.trans (moves_nextAction h)) s .refl

end Sys2Proof.Machine
end

section
/-! What the elementary moves of the card's own machinery keep. -/

namespace Sys2Proof.Machine

/-! ## What the parts of a move leave as they were -/

/-- A state that differs in the CWC alone, written out. -/
theorem OnlyCwc.eq {s t : State} (h : OnlyCwc s t) : t = s.withCwc t.cwc := by
  conv_rhs => rw [← h]
  rfl

theorem OnlyCwc.refl (s : State) : OnlyCwc s s := rfl

theorem OnlyCwc.trans {s t u : State} (h : OnlyCwc s t) (h' : OnlyCwc t u) : OnlyCwc s u := by
  rw [h'.eq, h.eq]
  rfl

theorem onlyCwc_respond (b : Block) (r : Response) (s : State) : OnlyCwc s (respond b r s) := by
  rw [respond_eq]
  rfl

theorem onlyCwc_writeBytes (a : Nat) (bs : List Byte) (s : State) : OnlyCwc s (writeBytes a bs s) := by
  obtain ⟨m, hm⟩ := writeBytes_eq a bs s
  rw [hm]
  rfl

theorem onlyCwc_writeArea (a : Nat) (v : Byte) (s : State) : OnlyCwc s (writeArea a v s) := by
  obtain ⟨m, hm⟩ := writeArea_eq a v s
  rw [hm]
  rfl

theorem onlyCwc_withCwc (c : Cwc) (s : State) : OnlyCwc s { s with cwc := c } := rfl

theorem onlyCwc_finishRun (r : Response) (s : State) : OnlyCwc s (finishRun r s) := by
  unfold finishRun
  split
  · exact .refl s
  · exact (onlyCwc_withCwc _ s).trans (onlyCwc_respond _ _ _)

theorem onlyCwc_finishAbort (r : Response) (s : State) : OnlyCwc s (finishAbort r s) := by
  unfold finishAbort
  split
  · exact .refl s
  · exact (onlyCwc_withCwc _ s).trans (onlyCwc_respond _ _ _)

theorem onlyCwc_finishPause (r : Response) (s : State) : OnlyCwc s (finishPause r s) := by
  unfold finishPause
  split
  · exact .refl s
  · exact (onlyCwc_withCwc _ s).trans (onlyCwc_respond _ _ _)

/-- One site record after the end of a run: an ACTIVE site is DONE, with the pass bin at COMPLETE if it has none (R6). -/
def doneSite (cause : EndCause) (passBin : Nat) (x : SiteRec) : SiteRec :=
  if x.state = .active then
    { x with state := .done, busy := false, bin := if cause = .complete ∧ x.bin = 0 then passBin else x.bin }
  else { x with busy := false }

theorem closeRun_site (cause : EndCause) (s : State) (i : Site) :
    (closeRun cause s).sites[i] = doneSite cause s.profile.passBin s.sites[i] := by
  show (doneEvent cause s).sites[i] = _
  unfold doneEvent doneSite
  simp only [mapSites_get, stopAllTimers_get]
  rfl

@[simp] theorem closeRun_cwc (cause : EndCause) (s : State) : (closeRun cause s).cwc = s.cwc := rfl
@[simp] theorem closeRun_hci (cause : EndCause) (s : State) : (closeRun cause s).hci = s.hci := rfl
@[simp] theorem closeRun_alert (cause : EndCause) (s : State) : (closeRun cause s).alert = s.alert := rfl
@[simp] theorem closeRun_seq (cause : EndCause) (s : State) : (closeRun cause s).run.seq = .idle := rfl

@[simp] theorem closeRun_running (cause : EndCause) (s : State) (i : Site) : (closeRun cause s).timers.running[i] = false :=
  stopAllTimers_running i s

theorem doneSite_state_ne_active (cause : EndCause) (b : Nat) (x : SiteRec) : (doneSite cause b x).state ≠ .active := by
  unfold doneSite
  split
  · simp
  · assumption

theorem doneSite_account (cause : EndCause) (b : Nat) (x : SiteRec) : SameAccount x (doneSite cause b x) := by
  unfold doneSite
  split <;> exact ⟨rfl, rfl, rfl, rfl, rfl, rfl⟩

/-- What an IDLE HCI sends: the pending DROP, or the request it holds, an ABANDON with its effects (R10, R14, R15). -/
theorem hciDue_cases {s t : State} (h : hciDue s = some t) : s.hci.outstanding = none ∧
    ((s.hci.pendingDrop ≠ 0 ∧ t = sendRequest (.drop s.hci.pendingDrop) { s with hci := { s.hci with pendingDrop := 0 } })
    ∨ ∃ r, s.hci.pendingDrop = 0 ∧ s.hci.held = some r
        ∧ (r = .abandon → t = sendRequest r (abandonEffects { s with hci := { s.hci with held := none } }))
        ∧ (r ≠ .abandon → t = sendRequest r { s with hci := { s.hci with held := none } })) := by
  unfold hciDue at h
  split at h
  · cases h
  next ho =>
    refine ⟨ho, ?_⟩
    split at h
    next hd => cases h; exact .inl ⟨hd, rfl⟩
    next hd =>
      split at h
      · cases h
      next r hr =>
        have ht := Option.some.inj h
        refine .inr ⟨r, by simpa using hd, hr, ?_, ?_⟩
        · rintro rfl
          rw [← ht, if_pos rfl]
        · intro hab
          rw [← ht, if_neg hab]

@[simp] theorem sendRequest_sites (r : Request) (s : State) : (sendRequest r s).sites = s.sites := rfl
@[simp] theorem sendRequest_timers (r : Request) (s : State) : (sendRequest r s).timers = s.timers := rfl
@[simp] theorem sendRequest_run (r : Request) (s : State) : (sendRequest r s).run = s.run := rfl
@[simp] theorem sendRequest_cwc (r : Request) (s : State) : (sendRequest r s).cwc = s.cwc := rfl
@[simp] theorem sendRequest_alert (r : Request) (s : State) : (sendRequest r s).alert = s.alert := rfl
@[simp] theorem sendRequest_strays (r : Request) (s : State) : (sendRequest r s).hci.strays = s.hci.strays := rfl

@[simp] theorem abandonEffects_site (i : Site) (s : State) : (abandonEffects s).sites[i] = { s.sites[i] with busy := false } :=
  stopAllTimers_get i s

@[simp] theorem abandonEffects_running (i : Site) (s : State) : (abandonEffects s).timers.running[i] = false :=
  stopAllTimers_running i s

/-- Sending what is due leaves a site but for its busy flag. -/
theorem hciDue_site {s t : State} (h : hciDue s = some t) (i : Site) :
    t.sites[i] = s.sites[i] ∨ t.sites[i] = { s.sites[i] with busy := false } := by
  obtain ⟨_, ⟨_, rfl⟩ | ⟨r, _, _, ha, hn⟩⟩ := hciDue_cases h
  · exact .inl rfl
  · by_cases hr : r = .abandon
    · rw [ha hr, sendRequest_sites, abandonEffects_site]
      exact .inr rfl
    · rw [hn hr]
      exact .inl rfl

/-- Sending what is due leaves the CWC, the Alert Monitor, the stray count and the sequencer state. -/
theorem hciDue_leaves {s t : State} (h : hciDue s = some t) :
    t.cwc = s.cwc ∧ t.alert = s.alert ∧ t.hci.strays = s.hci.strays ∧ t.run.seq = s.run.seq := by
  obtain ⟨_, ⟨_, rfl⟩ | ⟨r, _, _, ha, hn⟩⟩ := hciDue_cases h
  · exact ⟨rfl, rfl, rfl, rfl⟩
  · by_cases hr : r = .abandon
    · rw [ha hr]
      exact ⟨rfl, rfl, rfl, rfl⟩
    · rw [hn hr]
      exact ⟨rfl, rfl, rfl, rfl⟩

/-! ## Sites -/

/-- What an elementary move does to a site record: at most its statistics, its unit-failed mark and its busy flag change, or the run is
closed. -/
theorem Move.site {s t : State} (h : Move s t) (i : Site) :
    (∃ (st : Stats) (m b : Bool), t.sites[i] = { s.sites[i] with stats := st, unitFailed := m, busy := b })
    ∨ ∃ cause, t.sites[i] = doneSite cause s.profile.passBin s.sites[i] := by
  have same : ∀ x : SiteRec, x = { x with stats := x.stats, unitFailed := x.unitFailed, busy := x.busy } := fun _ => rfl
  have cwc : ∀ {u : State}, OnlyCwc s u →
      ∃ (st : Stats) (m b : Bool), u.sites[i] = { s.sites[i] with stats := st, unitFailed := m, busy := b } := fun hu => by
    rw [hu.eq]
    exact ⟨_, _, _, same _⟩
  cases h with
  | link | run | uag | timed | hold => exact .inl ⟨_, _, _, same _⟩
  | marks f hf =>
    rw [mapSites_get, hf]
    exact .inl ⟨_, _, _, rfl⟩
  | send _ h =>
    obtain h | h := hciDue_site h i
    · rw [h]; exact .inl ⟨_, _, _, same _⟩
    · rw [h]; exact .inl ⟨_, _, _, rfl⟩
  | finishRun r => exact .inl (cwc (onlyCwc_finishRun r s))
  | finishAbort r => exact .inl (cwc (onlyCwc_finishAbort r s))
  | finishPause r => exact .inl (cwc (onlyCwc_finishPause r s))
  | writeBytes a bs => exact .inl (cwc (onlyCwc_writeBytes a bs s))
  | close cause => exact .inr ⟨cause, closeRun_site cause s i⟩

/-- Own actions never make a site RETIRED. -/
theorem Moves.not_retired {s t : State} (h : Moves s t) (i : Site) (hs : s.sites[i].state ≠ .retired) :
    t.sites[i].state ≠ .retired := by
  refine h.keeps (P := fun u => u.sites[i].state ≠ .retired) (fun u v hm hu => ?_) hs
  obtain ⟨_, _, _, h⟩ | ⟨_, h⟩ := hm.site i
  · rw [h]; exact hu
  · rw [h]
    unfold doneSite
    split
    · simp
    · exact hu

/-- Own actions leave a bin that is set. -/
theorem Moves.bin {s t : State} (h : Moves s t) (i : Site) (hs : s.sites[i].bin ≠ 0) : t.sites[i].bin = s.sites[i].bin := by
  refine h.keeps (P := fun u => u.sites[i].bin = s.sites[i].bin) (fun u v hm hu => ?_) rfl
  obtain ⟨_, _, _, h⟩ | ⟨_, h⟩ := hm.site i
  · rw [h]; exact hu
  · rw [h]
    unfold doneSite
    split
    · exact (if_neg fun hb => hs (hu.symm.trans hb.2)).trans hu
    · exact hu

theorem Move.account {s t : State} (h : Move s t) (i : Site) : SameAccount s.sites[i] t.sites[i] := by
  obtain ⟨_, _, _, h⟩ | ⟨_, h⟩ := h.site i
  · rw [h]; exact ⟨rfl, rfl, rfl, rfl, rfl, rfl⟩
  · rw [h]; exact doneSite_account _ _ _

/-- Own actions start no timer. -/
theorem Moves.running {s t : State} (h : Moves s t) (i : Site) (hs : s.timers.running[i] = false) : t.timers.running[i] = false := by
  refine h.keeps (P := fun u => u.timers.running[i] = false) (fun u v hm hu => ?_) hs
  cases hm with
  | link | run | uag | timed | hold | marks => exact hu
  | finishRun r => rw [(onlyCwc_finishRun r u).eq]; exact hu
  | finishAbort r => rw [(onlyCwc_finishAbort r u).eq]; exact hu
  | finishPause r => rw [(onlyCwc_finishPause r u).eq]; exact hu
  | writeBytes a bs => rw [(onlyCwc_writeBytes a bs u).eq]; exact hu
  | close cause => exact closeRun_running cause u i
  | send _ h =>
    obtain ⟨_, ⟨_, rfl⟩ | ⟨r, _, _, ha, hn⟩⟩ := hciDue_cases h
    · exact hu
    · by_cases hr : r = .abandon
      · rw [ha hr, sendRequest_timers, abandonEffects_running]
      · rw [hn hr]; exact hu

/-! ## The head cable -/

/-- While a request is outstanding the own actions leave it, its deadline and the pending-drop mask. -/
theorem Moves.awaiting {s t : State} {o : Outstanding} (h : Moves s t) (hs : s.hci.outstanding = some o) :
    t.hci.outstanding = some o ∧ t.hci.pendingDrop = s.hci.pendingDrop := by
  refine h.keeps (P := fun u => u.hci.outstanding = some o ∧ u.hci.pendingDrop = s.hci.pendingDrop) (fun u v hm hu => ?_) ⟨hs, rfl⟩
  cases hm with
  | link | run | uag | timed | hold | marks | close => exact hu
  | finishRun r => rw [(onlyCwc_finishRun r u).eq]; exact hu
  | finishAbort r => rw [(onlyCwc_finishAbort r u).eq]; exact hu
  | finishPause r => rw [(onlyCwc_finishPause r u).eq]; exact hu
  | writeBytes a bs => rw [(onlyCwc_writeBytes a bs u).eq]; exact hu
  | send _ h =>
    rw [hciDue_awaiting hu.1] at h
    cases h

/-- No DROP that is pending, held or outstanding names the site. -/
def DropFree (i : Site) (h : Hci) : Prop :=
  inMask h.pendingDrop i = false ∧ (∀ m, h.held = some (.drop m) → inMask m i = false)
  ∧ ∀ o m, h.outstanding = some o → o.request = .drop m → inMask m i = false

theorem inMask_zero (i : Site) : inMask 0 i = false := by simp [inMask]

/-- Own actions name no site in a DROP that was not to be dropped. -/
theorem Moves.dropFree {s t : State} (h : Moves s t) (i : Site) (hs : DropFree i s.hci) : DropFree i t.hci := by
  refine h.keeps (P := fun u => DropFree i u.hci) (fun u v hm hu => ?_) hs
  cases hm with
  | link | run | uag | timed | marks | close => exact hu
  | hold r _ hd =>
    refine ⟨hu.1, fun m hm => ?_, hu.2.2⟩
    exact absurd (Option.some.inj hm) (hd m)
  | finishRun r => rw [(onlyCwc_finishRun r u).eq]; exact hu
  | finishAbort r => rw [(onlyCwc_finishAbort r u).eq]; exact hu
  | finishPause r => rw [(onlyCwc_finishPause r u).eq]; exact hu
  | writeBytes a bs => rw [(onlyCwc_writeBytes a bs u).eq]; exact hu
  | send _ h =>
    obtain ⟨hpend, hheld, _⟩ := hu
    obtain ⟨_, ⟨_, rfl⟩ | ⟨r, h0, hr, ha, hn⟩⟩ := hciDue_cases h
    · refine ⟨inMask_zero i, hheld, fun o m ho hm => ?_⟩
      cases Option.some.inj ho
      cases hm
      exact hpend
    · have sent : ∀ x : State, x.hci.held = none → x.hci.pendingDrop = 0 → DropFree i (sendRequest r x).hci := fun x hx hp => by
        refine ⟨?_, fun m hm => ?_, fun o m ho hm => ?_⟩
        · show inMask x.hci.pendingDrop i = false
          rw [hp, inMask_zero]
        · exact absurd (hx.symm.trans hm) (by simp)
        · cases Option.some.inj ho
          exact hheld m (hr.trans (congrArg some hm))
      by_cases hab : r = .abandon
      · rw [ha hab]; exact sent _ rfl rfl
      · rw [hn hab]; exact sent _ rfl h0

/-- Own actions put no site into the pending-drop mask. -/
theorem Moves.pendingDrop {s t : State} (h : Moves s t) (i : Site) (hs : inMask s.hci.pendingDrop i = false) :
    inMask t.hci.pendingDrop i = false := by
  refine h.keeps (P := fun u => inMask u.hci.pendingDrop i = false) (fun u v hm hu => ?_) hs
  cases hm with
  | link | run | uag | timed | hold | marks | close => exact hu
  | finishRun r => rw [(onlyCwc_finishRun r u).eq]; exact hu
  | finishAbort r => rw [(onlyCwc_finishAbort r u).eq]; exact hu
  | finishPause r => rw [(onlyCwc_finishPause r u).eq]; exact hu
  | writeBytes a bs => rw [(onlyCwc_writeBytes a bs u).eq]; exact hu
  | send _ h =>
    obtain ⟨_, ⟨_, rfl⟩ | ⟨r, _, _, ha, hn⟩⟩ := hciDue_cases h
    · exact inMask_zero i
    · by_cases hab : r = .abandon
      · rw [ha hab]; exact inMask_zero i
      · rw [hn hab]; exact hu

end Sys2Proof.Machine
end

section
/-! The mainframe's events as chains: changes of the mainframe side, end causes taken, and reports of a passed SYNC step. -/

namespace Sys2Proof.Machine

/-- One elementary move of an event of the link or of a running time: the mainframe side changes, a cause that sends ABANDON ends the
run, or a SYNC step is reported as passed. -/
inductive LinkMove : State → State → Prop
  | link (s t : State) (h : LinkSideOnly s t) : LinkMove s t
  | endRun (s : State) (cause : EndCause) (hc : cause ≠ .complete) (hn : cause ≠ .noSites) : LinkMove s (endRun cause s)
  | syncPassed (s : State) : LinkMove s (syncPassed s)

/-- A chain of such moves. -/
abbrev LinkMoves : State → State → Prop := Relation.ReflTransGen LinkMove

/-- What every such move keeps, a chain of them keeps. -/
theorem LinkMoves.keeps {P : State → Prop} (h : ∀ s t, LinkMove s t → P s → P t) {s t : State} (hm : LinkMoves s t) (hs : P s) :
    P t := by
  induction hm with
  | refl => exact hs
  | tail _ hb ih => exact h _ _ hb ih

theorem LinkMoves.moves {s t : State} (h : LinkMoves s t) : Moves s t :=
  h.keeps (P := Moves s) (fun _ _ hm hs => match hm with
    | .link _ _ h => hs.trans h.moves
    | .endRun _ cause _ _ => hs.trans (moves_endRun cause _)
    | .syncPassed _ => hs.trans (moves_syncPassed _)) .refl

theorem LinkSideOnly.linkMoves {s t : State} (h : LinkSideOnly s t) : LinkMoves s t := .single (.link s t h)

theorem linkMoves_ite {c : Prop} [Decidable c] {s t u : State} (ht : LinkMoves s t) (hu : LinkMoves s u) :
    LinkMoves s (if c then t else u) := by
  split
  · exact ht
  · exact hu

/-! ## The parts of a carried frame -/

theorem linkMoves_budgetLowered (s : State) : LinkMoves s (budgetLowered s) := by
  unfold budgetLowered
  split
  · refine linkMoves_ite (.trans ?_ (linkSideOnly_evaluateClaim _).linkMoves) .refl
    exact linkMoves_ite (.single (.endRun s _ (by simp) (by simp))) .refl
  · exact .refl

theorem linkMoves_takeBudget (x : Station) (b : Nat) (s : State) : LinkMoves s (takeBudget x b s) := by
  have entry : LinkMoves s (updPeer x (fun e => { e with budget := some (clampBudget b) }) s) :=
    (linkSideOnly_updPeer _ _ _).linkMoves
  exact linkMoves_ite (entry.trans ((linkSideOnly_link _ _).linkMoves.trans (linkMoves_budgetLowered _))) entry

theorem linkMoves_takePresence (x : Station) (f : Frame) (s : State) : LinkMoves s (takePresence x f s) := by
  have entry : LinkMoves s (updPeer x (fun e => { e with present := true }) s) := (linkSideOnly_updPeer _ _ _).linkMoves
  unfold takePresence
  dsimp only
  split
  · exact entry.trans (linkMoves_takeBudget _ _ _)
  · exact entry

theorem linkMoves_goMute (s : State) : LinkMoves s (goMute s) := by
  have silent : ∀ (l : Link) (r : Rail), LinkSideOnly s { s with link := l, rail := r } := fun l r => ⟨l, s.peers, r, s.sync, rfl⟩
  exact linkMoves_ite ((silent _ _).linkMoves.tail (.endRun _ _ (by simp) (by simp))) .refl

theorem linkSideOnly_dropWaiter (x : Station) (s : State) : LinkSideOnly s (dropWaiter x s) :=
  (linkSideOnly_rail _ s).trans (linkSideOnly_updPeer _ _ _)

theorem linkSideOnly_applyFrame (x : Station) (f : Frame) (s : State) : LinkSideOnly s (applyFrame x f s) := by
  unfold applyFrame
  cases f with
  | release | leave | state | mark => exact linkSideOnly_updPeer _ _ _
  | withdraw => exact linkSideOnly_dropWaiter x s
  | roll | claim => exact (linkSideOnly_dropWaiter x s).trans (linkSideOnly_updPeer _ _ _)
  | wait => exact LinkSideOnly.trans (linkSideOnly_rail { s.rail with
      waiters := if s.rail.waiters.contains x then s.rail.waiters else s.rail.waiters ++ [x] } s) (linkSideOnly_updPeer _ _ _)

theorem linkMoves_evaluateSync (s : State) : LinkMoves s (evaluateSync s) := by
  unfold evaluateSync
  split
  · exact linkMoves_ite ((linkSideOnly_sync _ s).linkMoves.tail (.syncPassed _)) .refl
  · exact .refl

theorem linkMoves_takeEntry (x : Station) (f : Frame) (s : State) : LinkMoves s (takeEntry x f s) := by
  have rule : LinkSideOnly s
      (if (f.kind.isRail && x != s.link.own) = true then evaluateClaim (applyFrame x f s) else applyFrame x f s) :=
    linkSideOnly_ite ((linkSideOnly_applyFrame x f s).trans (linkSideOnly_evaluateClaim _)) (linkSideOnly_applyFrame x f s)
  have own : (applyFrame x f s).link.own = s.link.own := by cases f <;> rfl
  unfold takeEntry
  dsimp only
  rw [own]
  exact linkMoves_ite (rule.linkMoves.trans (linkMoves_evaluateSync _)) rule.linkMoves

theorem linkMoves_takeSteps (x : Station) (f : Frame) (sent : Bool) (s : State) : LinkMoves s (takeSteps x f sent s) := by
  refine .trans ?_ (linkMoves_takeEntry x f _)
  exact linkMoves_ite ((linkMoves_takePresence x f s).trans (linkMoves_goMute _)) (linkMoves_takePresence x f s)

theorem linkSideOnly_railStateCarried (k : FrameKind) (s : State) : LinkSideOnly s (railStateCarried k s) := by
  unfold railStateCarried
  split
  · exact linkSideOnly_rail _ s
  · exact (linkSideOnly_rail _ s).trans (linkSideOnly_removeFrame _ _)
  · exact (linkSideOnly_rail _ s).trans (linkSideOnly_removeFrame _ _)
  · exact linkSideOnly_rail _ s
  · exact linkSideOnly_rail _ s
  · exact .refl s

theorem linkSideOnly_ownMarkCarried (f : Frame) (s : State) : LinkSideOnly s (ownMarkCarried f s) := by
  unfold ownMarkCarried
  split
  · exact linkSideOnly_ite (linkSideOnly_sync _ s) (.refl s)
  · exact .refl s

theorem linkSideOnly_ownCarried (a : Attempt) (f : Frame) (s : State) : LinkSideOnly s (ownCarried a f s) := by
  have opened : LinkSideOnly s (openRollWindow f (attemptCarried a s)) :=
    (linkSideOnly_link _ s).trans (linkSideOnly_ite (linkSideOnly_link _ _) (.refl _))
  exact (((opened.trans (linkSideOnly_ownMarkCarried _ _)).trans (linkSideOnly_railStateCarried _ _)).trans
    (linkSideOnly_evaluateClaim _)).trans (linkSideOnly_giveUpSteps _)

theorem linkSideOnly_answerRoll (s : State) : LinkSideOnly s (answerRoll s) := by
  unfold answerRoll
  dsimp only
  split <;> split
  · exact ((linkSideOnly_handFrame _ s).trans (linkSideOnly_handFrame _ _)).trans (linkSideOnly_handFrame _ _)
  · exact (linkSideOnly_handFrame _ s).trans (linkSideOnly_handFrame _ _)
  · exact (linkSideOnly_handFrame _ s).trans (linkSideOnly_handFrame _ _)
  · exact linkSideOnly_handFrame _ s

/-! ## The events of the link -/

theorem linkSideOnly_startFrame (s : State) : LinkSideOnly s (startFrame s) := by
  unfold startFrame
  split
  · exact linkSideOnly_link _ s
  · exact .refl s

theorem linkSideOnly_loseAttempt (s : State) : LinkSideOnly s (loseAttempt s) := by
  unfold loseAttempt
  split
  · exact .refl s
  · exact (linkSideOnly_link _ s).trans (linkSideOnly_attemptFailed _ _)

theorem linkMoves_voidAttempt (s : State) : LinkMoves s (voidAttempt s) := by
  unfold voidAttempt
  split
  · exact .refl
  next a _ =>
    have drawn : LinkMoves s { s with link := { s.link with
        attempt := none, objections := min (s.link.objections + 1) Config.objectionLimit } } := (linkSideOnly_link _ s).linkMoves
    exact linkMoves_ite (drawn.trans (linkMoves_goMute _)) (drawn.trans (linkSideOnly_attemptFailed _ _).linkMoves)

theorem linkMoves_takeFrame (x : Station) (f : Frame) (s : State) : LinkMoves s (takeFrame x f s) := by
  unfold takeFrame
  split
  · split
    · exact (linkMoves_takeSteps x f true s).trans (linkSideOnly_ownCarried _ _ _).linkMoves
    · have taken := (linkSideOnly_loseAttempt s).linkMoves.trans (linkMoves_takeSteps x f false _)
      exact linkMoves_ite (taken.trans (linkSideOnly_answerRoll _).linkMoves) taken
  · exact .refl

/-- A carried frame is such a chain, and then the card settles. -/
theorem carried_cases (x : Station) (f : Option Frame) (s : State) :
    carried x f s = s ∨ ∃ u, LinkMoves s u ∧ carried x f s = settle u := by
  cases f with
  | none => exact .inl rfl
  | some f => exact .inr ⟨_, linkMoves_takeFrame x f s, rfl⟩

end Sys2Proof.Machine
end

section
/-! The site operations as functions of one site record: each operation of the fail logic and of the busy timers is an update of its site by such
a function, so that its effect on a site is read off once. -/

namespace Sys2Proof.Machine

/-! ## Updates of one site -/

theorem updSite_updSite (i : Site) (f g : SiteRec → SiteRec) (s : State) :
    updSite i f (updSite i g s) = updSite i (fun x => f (g x)) s := by
  unfold updSite
  simp

theorem updSite_of_fixed {i : Site} {f : SiteRec → SiteRec} {s : State} (h : f s.sites[i] = s.sites[i]) : updSite i f s = s := by
  unfold updSite
  rw [h]
  simp

theorem updSite_congr {i : Site} {f g : SiteRec → SiteRec} {s : State} (h : f s.sites[i] = g s.sites[i]) :
    updSite i f s = updSite i g s := by
  unfold updSite
  rw [h]

/-- A retire event at one record (R4). -/
def retireRec (bin : Nat) (x : SiteRec) : SiteRec := if x.state = .active then { x with state := .retired, bin := bin } else x

theorem retireSite_eq (i : Site) (bin : Nat) (s : State) : retireSite i bin s = updSite i (retireRec bin) s := by
  unfold retireSite
  split
  next h => exact updSite_congr (if_pos h).symm
  next h => exact (updSite_of_fixed (if_neg h)).symm

/-- A failure of the unit in flight entered at one record (R101 to R103). -/
def failRec (u : Option Flight) (kind : FailKind) (value : Nat) (offset : Option (BitVec 32)) (x : SiteRec) : SiteRec :=
  match u with
  | none => x
  | some u => countFailUnit (logRecord (failRecord u kind value offset) x)

theorem recordFailure_eq (i : Site) (kind : FailKind) (value : Nat) (offset : Option (BitVec 32)) (s : State) :
    recordFailure i kind value offset s = updSite i (failRec s.run.inflight kind value offset) s := by
  unfold recordFailure
  cases h : s.run.inflight with
  | none => exact (updSite_of_fixed rfl).symm
  | some u => rfl

/-- A FAST or SLOW failure at one record: the failure entered, then the retire event under RETIRE (R92). -/
def busyFailRec (u : Option Flight) (kind : FailKind) (value : Nat) (t : TimedStep) (x : SiteRec) : SiteRec :=
  if t.action = .retire then retireRec t.bin (failRec u kind value none x) else failRec u kind value none x

theorem busyFailure_eq (i : Site) (kind : FailKind) (value : Nat) (t : TimedStep) (s : State) :
    busyFailure i kind value t s = updSite i (busyFailRec s.run.inflight kind value t) s := by
  unfold busyFailure busyFailRec
  by_cases h : t.action = .retire
  · simp only [h, if_true, recordFailure_eq, retireSite_eq, updSite_updSite]
  · simp only [h, if_false, recordFailure_eq]

/-- A busy time judged at one record: the statistics, then a FAST failure below the low limit (R89, R90). -/
def judgeRec (u : Option Flight) (t : TimedStep) (v : Nat) (x : SiteRec) : SiteRec :=
  if v < t.limits.low then busyFailRec u .fast v t { x with stats := takeBusyTime v x.stats }
  else { x with stats := takeBusyTime v x.stats }

theorem judgeBusyTime_eq {i : Site} {v : Nat} {t : TimedStep} {s : State} (h : s.timers.timed = some t) :
    judgeBusyTime i v s = updSite i (judgeRec s.run.inflight t v) s := by
  unfold judgeBusyTime judgeRec
  simp only [h]
  by_cases hv : v < t.limits.low
  · simp only [hv, if_true, busyFailure_eq, updSite_updSite]
    rfl
  · simp only [hv, if_false]

/-- The bad-block part of a COMPARE failure at one record: the block entered, and the retire event that R107 calls for. -/
def badBlockRec (allowance bin k : Nat) (x : SiteRec) : SiteRec :=
  if (enterBlock allowance k x.badBlocks).2 then retireRec bin { x with badBlocks := (enterBlock allowance k x.badBlocks).1 }
  else { x with badBlocks := (enterBlock allowance k x.badBlocks).1 }

theorem enterBlock_site (allowance bin k : Nat) (i : Site) (s : State) :
    (let entry := enterBlock allowance k s.sites[i].badBlocks
     let t := updSite i (fun x => { x with badBlocks := entry.1 }) s
     if entry.2 then retireSite i bin t else t) = updSite i (badBlockRec allowance bin k) s := by
  dsimp only
  split
  next h =>
    rw [retireSite_eq, updSite_updSite]
    exact updSite_congr (if_pos h).symm
  next h => exact updSite_congr (if_neg h).symm

/-- The record and the fail-bit total of a COMPARE failure at one record (R106). -/
def compareTotals (u : Flight) (e : ResultEntry) (x : SiteRec) : SiteRec :=
  { failRec (some u) .compare e.failBits.toNat (some e.offset) x with
    failBits := satAdd 4294967295 (failRec (some u) .compare e.failBits.toNat (some e.offset) x).failBits e.failBits.toNat }

/-- A COMPARE failure at one record (R106). -/
def compareRec (pr : Profile) (bin : Nat) (u : Flight) (e : ResultEntry) (x : SiteRec) : SiteRec :=
  match blockOf pr u.granule u.unit with
  | none => compareTotals u e x
  | some k => badBlockRec pr.allowance bin k (compareTotals u e x)

theorem compareFailure_eq {e : ResultEntry} {u : Flight} {s : State} (h : s.run.inflight = some u) :
    compareFailure e s = updSite e.site (compareRec s.profile (verifyBin s) u e) s := by
  have totals : updSite e.site (fun x => { x with failBits := satAdd 4294967295 x.failBits e.failBits.toNat })
      (recordFailure e.site .compare e.failBits.toNat (some e.offset) s) = updSite e.site (compareTotals u e) s := by
    rw [recordFailure_eq, updSite_updSite, h]
    rfl
  unfold compareFailure
  simp only [h, totals]
  show (match blockOf s.profile u.granule u.unit with | none => _ | some k => _) = _
  cases hk : blockOf s.profile u.granule u.unit with
  | none => exact updSite_congr (by unfold compareRec; rw [hk])
  | some k =>
    refine (enterBlock_site s.profile.allowance (verifyBin s) k e.site (updSite e.site (compareTotals u e) s)).trans ?_
    rw [updSite_updSite]
    exact updSite_congr (by unfold compareRec; rw [hk])

/-! ## Timers -/

theorem stopTimerAt_site (i j : Site) (v : Nat) (s : State) :
    (stopTimerAt i v s).sites[j] = if j = i then { s.sites[i] with busy := false } else s.sites[j] := vector_set_get _ _ _ _

theorem stopTimerAt_values (i j : Site) (v : Nat) (s : State) :
    (stopTimerAt i v s).timers.values[j] = if j = i then v else s.timers.values[j] := vector_set_get _ _ _ _

theorem stopTimerAt_running (i j : Site) (v : Nat) (s : State) :
    (stopTimerAt i v s).timers.running[j] = if j = i then false else s.timers.running[j] := vector_set_get _ _ _ _

theorem startTimer_site (i j : Site) (s : State) :
    (startTimer i s).sites[j] = if j = i then { s.sites[i] with busy := true } else s.sites[j] := vector_set_get _ _ _ _

theorem startTimer_values (i j : Site) (s : State) :
    (startTimer i s).timers.values[j] = if j = i then 0 else s.timers.values[j] := vector_set_get _ _ _ _

theorem startTimer_running (i j : Site) (s : State) :
    (startTimer i s).timers.running[j] = if j = i then true else s.timers.running[j] := vector_set_get _ _ _ _

/-! ## What the record functions leave -/

/-- A record function leaves the busy flag, the TRIPPED sites, and the state and bin of every site that is not ACTIVE; an ACTIVE one
stays so or is RETIRED. -/
structure Spares (x y : SiteRec) : Prop where
  busy : y.busy = x.busy
  still : x.state ≠ .active → y.state = x.state ∧ y.bin = x.bin
  active : x.state = .active → y.state = .active ∧ y.bin = x.bin ∨ y.state = .retired

theorem Spares.refl (x : SiteRec) : Spares x x := ⟨rfl, fun _ => ⟨rfl, rfl⟩, fun h => .inl ⟨h, rfl⟩⟩

/-- A change that leaves state, bin and busy flag spares a record. -/
theorem spares_of_eq {x y : SiteRec} (hs : y.state = x.state) (hb : y.bin = x.bin) (hy : y.busy = x.busy) : Spares x y :=
  ⟨hy, fun _ => ⟨hs, hb⟩, fun h => .inl ⟨hs.trans h, hb⟩⟩

theorem Spares.trans {x y z : SiteRec} (h : Spares x y) (h' : Spares y z) : Spares x z where
  busy := h'.busy.trans h.busy
  still := fun hx => by
    obtain ⟨hs, hb⟩ := h.still hx
    obtain ⟨hs', hb'⟩ := h'.still (hs ▸ hx)
    exact ⟨hs'.trans hs, hb'.trans hb⟩
  active := fun hx => by
    obtain ⟨hs, hb⟩ | hs := h.active hx
    · obtain ⟨hs', hb'⟩ | hs' := h'.active hs
      · exact .inl ⟨hs', hb'.trans hb⟩
      · exact .inr hs'
    · exact .inr ((h'.still (by simp [hs])).1.trans hs)

theorem spares_retireRec (bin : Nat) (x : SiteRec) : Spares x (retireRec bin x) := by
  unfold retireRec
  split
  next h => exact ⟨rfl, fun hn => absurd h hn, fun _ => .inr rfl⟩
  · exact .refl x

/-- Entering a failure leaves everything but log, overflow, count of failed units and unit-failed mark. -/
theorem failRec_eq (u : Option Flight) (kind : FailKind) (value : Nat) (offset : Option (BitVec 32)) (x : SiteRec) :
    ∃ (l : List FailRec) (o n : Nat) (m : Bool), failRec u kind value offset x =
      { x with log := l, overflow := o, failUnits := n, unitFailed := m } := by
  cases u with
  | none => exact ⟨_, _, _, _, rfl⟩
  | some u =>
    unfold failRec countFailUnit logRecord
    dsimp only
    split <;> split <;> exact ⟨_, _, _, _, rfl⟩

theorem spares_failRec (u : Option Flight) (kind : FailKind) (value : Nat) (offset : Option (BitVec 32)) (x : SiteRec) :
    Spares x (failRec u kind value offset x) := by
  obtain ⟨l, o, n, m, h⟩ := failRec_eq u kind value offset x
  rw [h]
  exact spares_of_eq rfl rfl rfl

theorem spares_busyFailRec (u : Option Flight) (kind : FailKind) (value : Nat) (t : TimedStep) (x : SiteRec) :
    Spares x (busyFailRec u kind value t x) := by
  have hf := spares_failRec u kind value none x
  unfold busyFailRec
  split
  · exact hf.trans (spares_retireRec _ _)
  · exact hf

theorem spares_judgeRec (u : Option Flight) (t : TimedStep) (v : Nat) (x : SiteRec) : Spares x (judgeRec u t v x) := by
  have stats : Spares x { x with stats := takeBusyTime v x.stats } := spares_of_eq rfl rfl rfl
  unfold judgeRec
  split
  · exact stats.trans (spares_busyFailRec _ _ _ _ _)
  · exact stats

theorem spares_compareTotals (u : Flight) (e : ResultEntry) (x : SiteRec) : Spares x (compareTotals u e x) := by
  obtain ⟨hb, hs, ha⟩ := spares_failRec (some u) .compare e.failBits.toNat (some e.offset) x
  exact ⟨hb, hs, ha⟩

theorem spares_badBlockRec (a bin k : Nat) (x : SiteRec) : Spares x (badBlockRec a bin k x) := by
  have entered : Spares x { x with badBlocks := (enterBlock a k x.badBlocks).1 } := spares_of_eq rfl rfl rfl
  unfold badBlockRec
  split
  · exact entered.trans (spares_retireRec _ _)
  · exact entered

theorem spares_compareRec (pr : Profile) (bin : Nat) (u : Flight) (e : ResultEntry) (x : SiteRec) :
    Spares x (compareRec pr bin u e x) := by
  unfold compareRec
  split
  · exact spares_compareTotals u e x
  · exact (spares_compareTotals u e x).trans (spares_badBlockRec _ _ _ _)

/-! ## Accounts in range -/

/-- Two records that show the same account are in range together. -/
theorem goodAccount_of_same {x y : SiteRec} (h : SameAccount x y) (hx : goodAccount x) : goodAccount y := by
  obtain ⟨hl, hc, ho, hu, hf, hb⟩ := h
  unfold goodAccount at hx ⊢
  rwa [hl, hc, ho, hu, hf, hb] at hx

theorem goodAccount_retireRec (bin : Nat) {x : SiteRec} (h : goodAccount x) : goodAccount (retireRec bin x) := by
  unfold retireRec
  split <;> exact h

theorem goodAccount_logRecord (f : FailRec) {x : SiteRec} (h : goodAccount x) : goodAccount (logRecord f x) := by
  obtain ⟨hl, hc, ho, hu, hf, hb, hp⟩ := h
  unfold logRecord
  split
  next hlt =>
    refine ⟨?_, ?_, ho, hu, hf, hb, hp⟩
    · rw [List.length_append, List.length_singleton]; exact hlt
    · rw [List.length_append]; exact Nat.le_add_right_of_le hc
  · exact ⟨hl, hc, satAdd_le _ _ _, hu, hf, hb, hp⟩

theorem goodAccount_countFailUnit {x : SiteRec} (h : goodAccount x) : goodAccount (countFailUnit x) := by
  unfold countFailUnit
  split
  · exact h
  · obtain ⟨hl, hc, ho, hu, hrest⟩ := h
    exact ⟨hl, hc, ho, satAdd_le _ _ _, hrest⟩

theorem goodAccount_failRec (u : Option Flight) (kind : FailKind) (value : Nat) (offset : Option (BitVec 32)) {x : SiteRec}
    (h : goodAccount x) : goodAccount (failRec u kind value offset x) := by
  cases u with
  | none => exact h
  | some u => exact goodAccount_countFailUnit (goodAccount_logRecord _ h)

theorem goodAccount_busyFailRec (u : Option Flight) (kind : FailKind) (value : Nat) (t : TimedStep) {x : SiteRec}
    (h : goodAccount x) : goodAccount (busyFailRec u kind value t x) := by
  unfold busyFailRec
  split
  · exact goodAccount_retireRec _ (goodAccount_failRec _ _ _ _ h)
  · exact goodAccount_failRec _ _ _ _ h

theorem goodAccount_judgeRec (u : Option Flight) (t : TimedStep) (v : Nat) {x : SiteRec} (h : goodAccount x) :
    goodAccount (judgeRec u t v x) := by
  unfold judgeRec
  split
  · exact goodAccount_busyFailRec _ _ _ _ h
  · exact h

/-- A block put into a set is a member of it, beside those that were. -/
theorem mem_insertBlock (k j : Nat) (set : List Nat) : j ∈ insertBlock k set ↔ j = k ∨ j ∈ set := by
  induction set with
  | nil => simp [insertBlock]
  | cons x xs ih =>
    unfold insertBlock
    split
    · simp
    · split
      next h => simp [h]
      · simp only [List.mem_cons, ih]
        exact or_left_comm

theorem length_insertBlock_le (k : Nat) (set : List Nat) : (insertBlock k set).length ≤ set.length + 1 := by
  induction set with
  | nil => exact Nat.le_refl _
  | cons x xs ih =>
    unfold insertBlock
    split
    · exact Nat.le_refl _
    · split
      · exact Nat.le_succ _
      · exact Nat.succ_le_succ ih

/-- A set that is ascending stays ascending when a block is put in. -/
theorem pairwise_insertBlock (k : Nat) {set : List Nat} (h : set.Pairwise (· < ·)) : (insertBlock k set).Pairwise (· < ·) := by
  induction set with
  | nil => exact List.pairwise_singleton _ _
  | cons x xs ih =>
    obtain ⟨hx, hxs⟩ := List.pairwise_cons.mp h
    unfold insertBlock
    split
    next hlt =>
      refine List.pairwise_cons.mpr ⟨fun y hy => ?_, h⟩
      rcases List.mem_cons.mp hy with rfl | hy
      · exact hlt
      · exact hlt.trans (hx y hy)
    · split
      · exact h
      next hnlt hne =>
        refine List.pairwise_cons.mpr ⟨fun y hy => ?_, ih hxs⟩
        rcases (mem_insertBlock k y xs).mp hy with rfl | hy
        · omega
        · exact hx y hy

theorem goodAccount_badBlockRec (a bin k : Nat) {x : SiteRec} (h : goodAccount x) : goodAccount (badBlockRec a bin k x) := by
  obtain ⟨hl, hc, ho, hu, hf, hb, hp⟩ := h
  have entered : goodAccount { x with badBlocks := (enterBlock a k x.badBlocks).1 } := by
    refine ⟨hl, hc, ho, hu, hf, ?_, ?_⟩
    all_goals dsimp only; unfold enterBlock; split
    · exact hb
    · split
      next hlt => exact (length_insertBlock_le k _).trans hlt
      · exact hb
    · exact hp
    · split
      · exact pairwise_insertBlock k hp
      · exact hp
  unfold badBlockRec
  split
  · exact goodAccount_retireRec _ entered
  · exact entered

theorem goodAccount_compareRec (pr : Profile) (bin : Nat) (u : Flight) (e : ResultEntry) {x : SiteRec} (h : goodAccount x) :
    goodAccount (compareRec pr bin u e x) := by
  have totals : goodAccount (compareTotals u e x) := by
    obtain ⟨hl, hc, ho, hu, _, hb, hp⟩ := goodAccount_failRec (some u) .compare e.failBits.toNat (some e.offset) h
    exact ⟨hl, hc, ho, hu, satAdd_le _ _ _, hb, hp⟩
  unfold compareRec
  split
  · exact totals
  · exact goodAccount_badBlockRec _ _ _ totals

end Sys2Proof.Machine
end

section
/-! The accounts, the saturating counters and the queues stay in their ranges. -/

namespace Sys2Proof.Machine

/-- The part of the ranges that is the CWC's: its counts, its queues, and the offsets of the blocks it holds (R178, R179, R185). -/
structure CwcBounded (c : Cwc) : Prop where
  badPosts : c.badPosts ≤ 65535
  attention : c.attention ≤ 65535
  urgent : c.urgent.length ≤ 4
  plan : c.plan.length ≤ 8
  urgentGood : goodQueue false c.urgent
  planGood : goodQueue true c.plan
  held : ∀ b ∈ heldBlocks c, postValid b.offset = true

/-- Counts and queues in their ranges, block by block of the card. -/
structure Bounded (s : State) : Prop where
  accounts : ∀ i : Site, goodAccount s.sites[i]
  strays : s.hci.strays ≤ 65535
  alerts : s.alert.count ≤ 255
  cwc : CwcBounded s.cwc

theorem bounded_iff (s : State) : Bounded s ↔ CountsInRange s ∧ QueuesBounded s := by
  constructor
  · rintro ⟨ha, hs, hc, hb, ht, hu, hp, hug, hpg, hh⟩
    exact ⟨⟨ha, hs, hb, ht, hc⟩, hu, hp, hug, hpg, hh⟩
  · rintro ⟨⟨ha, hs, hb, ht, hc⟩, hu, hp, hug, hpg, hh⟩
    exact ⟨ha, hs, hc, hb, ht, hu, hp, hug, hpg, hh⟩

/-! ## The CWC -/

/-- A CWC that holds no other blocks than one in range, in queues cut down, with its counts in range. -/
theorem CwcBounded.shrink {c d : Cwc} (h : CwcBounded c) (hb : d.badPosts ≤ 65535) (ha : d.attention ≤ 65535)
    (hu : d.urgent.Sublist c.urgent) (hp : d.plan.Sublist c.plan) (hh : ∀ b ∈ heldBlocks d, b ∈ heldBlocks c) : CwcBounded d where
  badPosts := hb
  attention := ha
  urgent := hu.length_le.trans h.urgent
  plan := hp.length_le.trans h.plan
  urgentGood := fun b hm => h.urgentGood b (hu.subset hm)
  planGood := fun b hm => h.planGood b (hp.subset hm)
  held := fun b hm => h.held b (hh b hm)

/-- Which blocks are held: the outstanding ones and those of the queues. -/
theorem mem_heldBlocks (c : Cwc) (b : Block) : b ∈ heldBlocks c ↔
    c.outRun = some b ∨ c.outAbort = some b ∨ c.outPause = some b ∨ b ∈ c.urgent ∨ b ∈ c.plan := by
  simp [heldBlocks, Option.mem_toList]

theorem cwcBounded_respond (b : Block) (r : Response) {s : State} (h : CwcBounded s.cwc) : CwcBounded (respond b r s).cwc := by
  rw [respond_eq]
  refine h.shrink h.badPosts ?_ (.refl _) (.refl _) fun _ hb => hb
  dsimp only
  split
  · exact h.attention
  · exact satAdd_le _ _ _

theorem cwcBounded_writeBytes (a : Nat) (bs : List Byte) {s : State} (h : CwcBounded s.cwc) : CwcBounded (writeBytes a bs s).cwc := by
  obtain ⟨m, hm⟩ := writeBytes_eq a bs s
  rw [hm]
  exact h.shrink h.badPosts h.attention (.refl _) (.refl _) fun _ hb => hb

theorem cwcBounded_writeArea (a : Nat) (v : Byte) {s : State} (h : CwcBounded s.cwc) : CwcBounded (writeArea a v s).cwc := by
  obtain ⟨m, hm⟩ := writeArea_eq a v s
  rw [hm]
  exact h.shrink h.badPosts h.attention (.refl _) (.refl _) fun _ hb => hb

/-- Outstanding blocks replaced by posted ones, or cleared. -/
theorem CwcBounded.outstanding {c : Cwc} (h : CwcBounded c) (r p a : Option Block)
    (hh : ∀ b, r = some b ∨ p = some b ∨ a = some b → postValid b.offset = true) :
    CwcBounded { c with outRun := r, outPause := p, outAbort := a } := by
  refine ⟨h.badPosts, h.attention, h.urgent, h.plan, h.urgentGood, h.planGood, fun b hb => ?_⟩
  rcases (mem_heldBlocks _ b).mp hb with hb | hb | hb | hb
  · exact hh b (.inl hb)
  · exact hh b (.inr (.inr hb))
  · exact hh b (.inr (.inl hb))
  · exact h.held b ((mem_heldBlocks c b).mpr (.inr (.inr (.inr hb))))

/-- The blocks outstanding were posted at valid offsets. -/
theorem CwcBounded.outValid {c : Cwc} (h : CwcBounded c) {b : Block} (hb : c.outRun = some b ∨ c.outAbort = some b ∨ c.outPause = some b) :
    postValid b.offset = true := by
  refine h.held b ((mem_heldBlocks c b).mpr ?_)
  rcases hb with hb | hb | hb
  · exact .inl hb
  · exact .inr (.inl hb)
  · exact .inr (.inr (.inl hb))

theorem cwcBounded_finishRun (r : Response) {s : State} (h : CwcBounded s.cwc) : CwcBounded (finishRun r s).cwc := by
  unfold finishRun
  split
  · exact h
  · refine cwcBounded_respond _ _ (h.outstanding none s.cwc.outPause s.cwc.outAbort fun b hb => h.outValid ?_)
    rcases hb with hb | hb | hb
    · cases hb
    · exact .inr (.inr hb)
    · exact .inr (.inl hb)

theorem cwcBounded_finishAbort (r : Response) {s : State} (h : CwcBounded s.cwc) : CwcBounded (finishAbort r s).cwc := by
  unfold finishAbort
  split
  · exact h
  · refine cwcBounded_respond _ _ (h.outstanding s.cwc.outRun s.cwc.outPause none fun b hb => h.outValid ?_)
    rcases hb with hb | hb | hb
    · exact .inl hb
    · exact .inr (.inr hb)
    · cases hb

theorem cwcBounded_finishPause (r : Response) {s : State} (h : CwcBounded s.cwc) : CwcBounded (finishPause r s).cwc := by
  unfold finishPause
  split
  · exact h
  · refine cwcBounded_respond _ _ (h.outstanding s.cwc.outRun none s.cwc.outAbort fun b hb => h.outValid ?_)
    rcases hb with hb | hb | hb
    · exact .inl hb
    · cases hb
    · exact .inr (.inl hb)

theorem cwcBounded_respondAll (r : Response) (bs : List Block) {s : State} (h : CwcBounded s.cwc) :
    CwcBounded (respondAll r bs s).cwc := by
  induction bs generalizing s with
  | nil => exact h
  | cons b bs ih => exact ih (cwcBounded_respond b r h)

/-- The block taken had been posted at a valid offset, and the queues are in range without it. -/
theorem cwcBounded_takeBlock {s s0 : State} {b : Block} (h : CwcBounded s.cwc) (ht : takeBlock s = some (b, s0)) :
    CwcBounded s0.cwc ∧ postValid b.offset = true := by
  unfold takeBlock at ht
  split at ht
  next b' rest hu =>
    cases ht
    refine ⟨h.shrink h.badPosts h.attention ?_ (.refl _) fun x hx => ?_, ?_⟩
    · rw [hu]; exact List.sublist_cons_self _ _
    · simp only [mem_heldBlocks, hu, List.mem_cons] at hx ⊢
      tauto
    · exact (h.urgentGood b (by simp [hu])).1
  next b' rest hu hp =>
    cases ht
    refine ⟨h.shrink h.badPosts h.attention (.refl _) ?_ fun x hx => ?_, ?_⟩
    · rw [hp]; exact List.sublist_cons_self _ _
    · simp only [mem_heldBlocks, hp, List.mem_cons] at hx ⊢
      tauto
    · exact (h.planGood b (by simp [hp])).1
  · cases ht

/-! ## Changes that keep the ranges -/

/-- Accounts left, and the stray count, the alert count and the CWC as they were. -/
theorem Bounded.of_same {s t : State} (h : Bounded s) (ha : ∀ i : Site, SameAccount s.sites[i] t.sites[i])
    (hs : t.hci.strays = s.hci.strays) (hc : t.alert.count = s.alert.count) (hw : t.cwc = s.cwc) : Bounded t where
  accounts := fun i => goodAccount_of_same (ha i) (h.accounts i)
  strays := hs ▸ h.strays
  alerts := hc ▸ h.alerts
  cwc := hw ▸ h.cwc

/-- A change of the CWC alone that keeps it in range. -/
theorem Bounded.of_cwc {s t : State} (h : Bounded s) (ho : OnlyCwc s t) (hc : CwcBounded t.cwc) : Bounded t := by
  rw [ho.eq]
  exact ⟨h.accounts, h.strays, h.alerts, hc⟩

/-- A change of the run alone. -/
theorem Bounded.run {s : State} (h : Bounded s) (x : Run) : Bounded { s with run := x } := ⟨h.accounts, h.strays, h.alerts, h.cwc⟩

theorem bounded_respond (b : Block) (r : Response) {s : State} (h : Bounded s) : Bounded (respond b r s) :=
  h.of_cwc (onlyCwc_respond b r s) (cwcBounded_respond b r h.cwc)

theorem bounded_writeBytes (a : Nat) (bs : List Byte) {s : State} (h : Bounded s) : Bounded (writeBytes a bs s) :=
  h.of_cwc (onlyCwc_writeBytes a bs s) (cwcBounded_writeBytes a bs h.cwc)

theorem bounded_respondWith (b : Block) (r : Response) (data : List Byte) {s : State} (h : Bounded s) :
    Bounded (respondWith b r data s) := bounded_respond b r (bounded_writeBytes _ _ h)

theorem bounded_finishPause (r : Response) {s : State} (h : Bounded s) : Bounded (finishPause r s) :=
  h.of_cwc (onlyCwc_finishPause r s) (cwcBounded_finishPause r h.cwc)

theorem bounded_mapSites {f : SiteRec → SiteRec} (hf : ∀ x, goodAccount x → goodAccount (f x)) {s : State} (h : Bounded s) :
    Bounded (mapSites f s) :=
  ⟨fun i => by rw [mapSites_get]; exact hf _ (h.accounts i), h.strays, h.alerts, h.cwc⟩

theorem bounded_updSite (i : Site) {f : SiteRec → SiteRec} (hf : ∀ x, goodAccount x → goodAccount (f x)) {s : State} (h : Bounded s) :
    Bounded (updSite i f s) := by
  refine ⟨fun j => ?_, h.strays, h.alerts, h.cwc⟩
  rw [updSite_get]
  split
  · exact hf _ (h.accounts i)
  · exact h.accounts j

theorem bounded_addStrays (n : Nat) {s : State} (h : Bounded s) : Bounded (addStrays n s) :=
  ⟨h.accounts, satAdd_le _ _ _, h.alerts, h.cwc⟩

theorem Move.bounded {s t : State} (hm : Move s t) (h : Bounded s) : Bounded t := by
  have account := hm.account
  cases hm with
  | link | run | uag | timed | marks | hold | close => exact h.of_same account rfl rfl rfl
  | send _ hd =>
    obtain ⟨hc, ha, hs, _⟩ := hciDue_leaves hd
    exact h.of_same account hs (by rw [ha]) hc
  | finishRun r => exact h.of_cwc (onlyCwc_finishRun r s) (cwcBounded_finishRun r h.cwc)
  | finishAbort r => exact h.of_cwc (onlyCwc_finishAbort r s) (cwcBounded_finishAbort r h.cwc)
  | finishPause r => exact bounded_finishPause r h
  | writeBytes a bs => exact bounded_writeBytes a bs h

theorem Moves.bounded {s t : State} (hm : Moves s t) (h : Bounded s) : Bounded t := hm.keeps (fun _ _ m => m.bounded) h

theorem bounded_settle {s : State} (h : Bounded s) : Bounded (settle s) := (moves_settle s).bounded h

/-! ## Posts -/

theorem bounded_enqueue {b : Block} (hb : postValid b.offset = true) {s : State} (h : Bounded s) : Bounded (enqueue b s) := by
  unfold enqueue
  split
  · exact bounded_respond _ _ h
  next c hc =>
    split
    next hplan =>
      split
      next hroom =>
        refine h.of_cwc (onlyCwc_withCwc _ s) ⟨h.cwc.badPosts, h.cwc.attention, h.cwc.urgent, ?_, h.cwc.urgentGood, ?_, ?_⟩
        · simp only [List.length_append, List.length_singleton]; exact hroom
        · intro x hx
          rcases List.mem_append.mp hx with hx | hx
          · exact h.cwc.planGood x hx
          · rw [List.mem_singleton.mp hx]; exact ⟨hb, c, hc, hplan⟩
        · intro x hx
          simp only [mem_heldBlocks, List.mem_append, List.mem_singleton] at hx
          by_cases hxb : x = b
          · rw [hxb]; exact hb
          · exact h.cwc.held x ((mem_heldBlocks _ x).mpr (by tauto))
      · exact bounded_respond _ _ h
    next hurgent =>
      split
      next hroom =>
        refine h.of_cwc (onlyCwc_withCwc _ s) ⟨h.cwc.badPosts, h.cwc.attention, ?_, h.cwc.plan, ?_, h.cwc.planGood, ?_⟩
        · simp only [List.length_append, List.length_singleton]; exact hroom
        · intro x hx
          rcases List.mem_append.mp hx with hx | hx
          · exact h.cwc.urgentGood x hx
          · rw [List.mem_singleton.mp hx]; exact ⟨hb, c, hc, by simpa using hurgent⟩
        · intro x hx
          simp only [mem_heldBlocks, List.mem_append, List.mem_singleton] at hx
          by_cases hxb : x = b
          · rw [hxb]; exact hb
          · exact h.cwc.held x ((mem_heldBlocks _ x).mpr (by tauto))
      · exact bounded_respond _ _ h

/-- A change of cells and held bytes of the CWC, with its counts in range. -/
theorem Bounded.cells {s : State} (h : Bounded s) (m : List Host.Cell) (p : BitVec 16) (ph ah : Byte) {a n : Nat} (ha : a ≤ 65535)
    (hn : n ≤ 65535) : Bounded { s with cwc := { s.cwc with
      mem := m, postCell := p, postHeld := ph, attentionHeld := ah, attention := a, badPosts := n } } :=
  h.of_cwc (onlyCwc_withCwc _ s) (h.cwc.shrink hn ha (.refl _) (.refl _) fun _ hb => hb)

theorem bounded_takePost (v : BitVec 16) {s : State} (h : Bounded s) : Bounded (takePost v s) := by
  have posted : Bounded { s with cwc := { s.cwc with postCell := v } } :=
    h.cells s.cwc.mem v s.cwc.postHeld s.cwc.attentionHeld h.cwc.attention h.cwc.badPosts
  unfold takePost
  dsimp only
  split
  next hv => exact bounded_enqueue hv (posted.of_cwc (onlyCwc_writeArea _ _ _) (cwcBounded_writeArea _ _ posted.cwc))
  · exact h.cells s.cwc.mem v s.cwc.postHeld s.cwc.attentionHeld h.cwc.attention (satAdd_le _ _ _)

theorem bounded_holdPostByte (v : Byte) {s : State} (h : Bounded s) : Bounded (holdPostByte v s) :=
  h.cells s.cwc.mem s.cwc.postCell v s.cwc.attentionHeld h.cwc.attention h.cwc.badPosts

theorem bounded_holdAttentionByte (v : Byte) {s : State} (h : Bounded s) : Bounded (holdAttentionByte v s) :=
  h.cells s.cwc.mem s.cwc.postCell s.cwc.postHeld v h.cwc.attention h.cwc.badPosts

theorem bounded_attentionSecondByte (v : Byte) {s : State} (h : Bounded s) : Bounded (attentionSecondByte v s) :=
  h.cells s.cwc.mem s.cwc.postCell s.cwc.postHeld s.cwc.attentionHeld ((Nat.sub_le _ _).trans h.cwc.attention) h.cwc.badPosts

/-- What a write of a window byte can do: the work of one of the two cells, or a store into the area. -/
theorem windowWrite_cases {offset : Nat} {v : Byte} {s t : State} (h : execWindowWrite offset v s = .next t) :
    t = holdPostByte v s ∨ t = postSecondByte v s ∨ t = holdAttentionByte v s ∨ t = attentionSecondByte v s
    ∨ t = writeArea offset v s := by
  unfold execWindowWrite at h
  split at h
  · cases h
  · split at h
    · exact .inl (Host.Outcome.next.inj h).symm
    · split at h
      · exact .inr (.inl (Host.Outcome.next.inj h).symm)
      · split at h
        · exact .inr (.inr (.inl (Host.Outcome.next.inj h).symm))
        · split at h
          · exact .inr (.inr (.inr (.inl (Host.Outcome.next.inj h).symm)))
          · exact .inr (.inr (.inr (.inr (Host.Outcome.next.inj h).symm)))

theorem bounded_windowWrite {offset : Nat} {v : Byte} {s t : State} (h : Bounded s) (he : execWindowWrite offset v s = .next t) :
    Bounded t := by
  rcases windowWrite_cases he with rfl | rfl | rfl | rfl | rfl
  · exact bounded_holdPostByte v h
  · exact bounded_takePost _ h
  · exact bounded_holdAttentionByte v h
  · exact bounded_attentionSecondByte v h
  · exact h.of_cwc (onlyCwc_writeArea _ _ _) (cwcBounded_writeArea _ _ h.cwc)

/-! ## Served commands -/

/-- Serving keeps the ranges when the owner does, for a block that was posted at a valid offset. -/
theorem bounded_serve {c : Cmd} {owner : Block → State → State} {s : State} (h : Bounded s)
    (ho : ∀ (b : Block) (x : State), postValid b.offset = true → Bounded x → Bounded (owner b x)) : Bounded (serve c owner s) := by
  rcases serve_cases c owner s with hs | ⟨b, s0, ht, _, hs⟩
  · rw [hs]; exact h
  · obtain ⟨hc, hb⟩ := cwcBounded_takeBlock h.cwc ht
    have h0 : Bounded s0 := h.of_cwc (by rw [takeBlock_eq ht]; rfl) hc
    rcases hs with ⟨r, _, hs⟩ | ⟨_, hs⟩
    · rw [hs]; exact bounded_respond b r h0
    · rw [hs]; exact ho b s0 hb h0

theorem bounded_guarded {b : Block} {conds : List (Bool × Response)} {act : State → State} {s : State} (h : Bounded s)
    (ha : Bounded (act s)) : Bounded (guarded b conds act s) := by
  unfold guarded
  split
  · exact bounded_respond _ _ h
  · exact ha

theorem goodAccount_clear (x : SiteRec) : goodAccount { clearAccount x with bin := 0 } := by
  simp [goodAccount, clearAccount]

theorem bounded_clearAccounts {s : State} (h : Bounded s) : Bounded (clearAccounts s) :=
  bounded_mapSites (fun x _ => goodAccount_clear x) h

theorem bounded_hciPump {s : State} (h : Bounded s) : Bounded (hciPump s) := (moves_hciPump s).bounded h

/-- A site at the start of a run: its account, its bin and its statistics cleared (R62). -/
theorem clearForRun_site (s : State) (i : Site) :
    (clearForRun s).sites[i] = { clearAccount s.sites[i] with bin := 0, stats := Stats.zero } := by
  show (clearStats (clearAccounts s)).sites[i] = _
  unfold clearStats clearAccounts
  rw [mapSites_get, mapSites_get]

theorem bounded_startRun {b : Block} (hb : postValid b.offset = true) {s : State} (h : Bounded s) : Bounded (startRun b s) := by
  have outstanding : CwcBounded { s.cwc with outRun := some b } := by
    refine h.cwc.outstanding (some b) s.cwc.outPause s.cwc.outAbort fun x hx => ?_
    rcases hx with hx | hx | hx
    · rw [← Option.some.inj hx]; exact hb
    · exact h.cwc.outValid (.inr (.inr hx))
    · exact h.cwc.outValid (.inr (.inl hx))
  refine bounded_hciPump ⟨fun i => ?_, h.strays, Nat.zero_le _, outstanding⟩
  show goodAccount (clearForRun _).sites[i]
  rw [clearForRun_site]
  simp [goodAccount, clearAccount]

theorem bounded_restoreSites (mask : SiteMask) {s : State} (h : Bounded s) : Bounded (restoreSites mask s) := by
  refine h.of_same (fun i => ?_) rfl rfl rfl
  unfold restoreSites
  rw [tabulate_get]
  dsimp only
  split <;> exact .refl _

/-- Reading on in a fail log keeps the cursor inside it. -/
theorem goodAccount_cursor {x : SiteRec} (most : Nat) (h : goodAccount x) :
    goodAccount { x with cursor := x.cursor + unreadCount most x } := by
  obtain ⟨hl, hc, hrest⟩ := h
  refine ⟨hl, ?_, hrest⟩
  show x.cursor + min most (x.log.length - x.cursor) ≤ x.log.length
  omega

theorem bounded_readFailLog (b : Block) {s : State} (h : Bounded s) : Bounded (readFailLogOwner b s) := by
  unfold readFailLogOwner
  split
  · exact bounded_respond _ _ h
  next i _ =>
    refine bounded_guarded h (bounded_respondWith _ _ _ ⟨fun j => ?_, h.strays, h.alerts, h.cwc⟩)
    rw [updSite_get]
    split
    · exact goodAccount_cursor _ (h.accounts i)
    · exact h.accounts j

theorem bounded_rewindLogs (mask : SiteMask) {s : State} (h : Bounded s) : Bounded (rewindLogs mask s) := by
  refine ⟨fun i => ?_, h.strays, h.alerts, h.cwc⟩
  obtain ⟨hl, hc, hrest⟩ := h.accounts i
  unfold rewindLogs
  rw [tabulate_get]
  split
  · exact ⟨hl, Nat.zero_le _, hrest⟩
  · exact ⟨hl, hc, hrest⟩

theorem moves_giveUp (s : State) : Moves s (giveUp s) := (linkSideOnly_giveUp s).moves

theorem moves_pauseTakesEffect (s : State) : Moves s (pauseTakesEffect s) := by
  have effect : Moves s (recordResume { s with run := { s.run with seq := .pausing, heldPause := false } }) :=
    moves_run _ (by simp)
  exact moves_ite (effect.trans (moves_giveUp _)) effect

theorem bounded_acceptPause {b : Block} (hb : postValid b.offset = true) {s : State} (h : Bounded s) : Bounded (acceptPause b s) := by
  have outstanding : Bounded { s with cwc := { s.cwc with outPause := some b } } := by
    refine h.of_cwc (onlyCwc_withCwc _ s) (h.cwc.outstanding s.cwc.outRun (some b) s.cwc.outAbort fun x hx => ?_)
    rcases hx with hx | hx | hx
    · exact h.cwc.outValid (.inl hx)
    · rw [← Option.some.inj hx]; exact hb
    · exact h.cwc.outValid (.inr (.inl hx))
  unfold acceptPause
  dsimp only
  split
  · exact outstanding.run _
  · exact bounded_settle ((moves_pauseTakesEffect _).bounded outstanding)

theorem moves_releaseSyncPass (s : State) : Moves s (releaseSyncPass s) := by
  have taken : Moves s { s with run := { s.run with heldSyncPass := false } } := moves_run _ id
  exact moves_ite (moves_ite (taken.trans (moves_run _ id)) taken) .refl

theorem moves_resumeRun (s : State) : Moves s (resumeRun s) := by
  unfold resumeRun
  split
  · exact Moves.after (.single (.finishPause _ _)) (moves_run _ id)
  · exact Moves.after (.single (.finishPause _ _)) (Moves.after (moves_releaseSyncPass _) (moves_run _ (by simp)))
  · exact Moves.after (moves_releaseSyncPass _) (moves_run _ (by simp))
  · exact .refl

theorem bounded_resumeOwner (b : Block) {s : State} (h : Bounded s) : Bounded (resumeOwner b s) :=
  bounded_guarded h (bounded_settle (bounded_respond _ _ (((moves_resumeRun s).bounded h).run _)))

theorem bounded_abortOwner {b : Block} (hb : postValid b.offset = true) {s : State} (h : Bounded s) : Bounded (abortOwner b s) := by
  refine bounded_guarded h (bounded_settle ((moves_endRun _ _).bounded (h.of_cwc (onlyCwc_withCwc _ s) ?_)))
  refine h.cwc.outstanding s.cwc.outRun s.cwc.outPause (some b) fun x hx => ?_
  rcases hx with hx | hx | hx
  · exact h.cwc.outValid (.inl hx)
  · exact h.cwc.outValid (.inr (.inr hx))
  · rw [← Option.some.inj hx]; exact hb

/-! ## Resets and RAIL-FAIL -/

theorem bounded_cutShort {s : State} (h : Bounded s) : Bounded (cutShort s) := by
  have leaves := leaves_cutShort s
  refine h.of_same leaves.account leaves.strays (by rw [leaves.alert]) ?_
  unfold cutShort
  dsimp only
  split <;> rfl

theorem bounded_haltBlocks {s : State} (h : Bounded s) : Bounded (haltBlocks s) := ⟨h.accounts, h.strays, h.alerts, h.cwc⟩

theorem bounded_haltCard {s : State} (h : Bounded s) : Bounded (haltCard s) := by
  unfold haltCard
  dsimp only
  split
  · exact (moves_finishRunEnd _ _).bounded (bounded_cutShort (bounded_haltBlocks h))
  · exact bounded_haltBlocks h

theorem goodAccount_reset : goodAccount SiteRec.reset := by simp [goodAccount, SiteRec.reset]

theorem cwcBounded_reset : CwcBounded Cwc.reset := by
  constructor <;> simp [Cwc.reset, goodQueue, heldBlocks]

/-- A site right after power-on (R2). -/
theorem powerOn_site (straps : Straps) (lines : Lines) (i : Site) : (State.powerOn straps lines).sites[i] = SiteRec.reset :=
  Vector.getElem_replicate _

theorem bounded_powerOn (straps : Straps) (lines : Lines) : Bounded (State.powerOn straps lines) :=
  ⟨fun i => by rw [powerOn_site]; exact goodAccount_reset, Nat.zero_le _, Nat.zero_le _, cwcBounded_reset⟩

theorem bounded_resetCard (straps : Straps) (lines : Lines) (s : State) : Bounded (resetCard straps lines s) := by
  have fresh : Bounded (((State.powerOn straps lines).withPending s.pending).withUag (unloadUag s).uag) := by
    obtain ⟨ha, hs, hc, hw⟩ := bounded_powerOn straps lines
    exact ⟨ha, hs, hc, hw⟩
  unfold resetCard
  dsimp only
  split
  · exact bounded_haltCard fresh
  · exact fresh

theorem bounded_endRunForReset {s : State} (h : Bounded s) : Bounded (endRunForReset s) := by
  unfold endRunForReset
  split
  · exact Moves.bounded (.trans (.single (.close _ _)) (moves_writeRunResult _)) (bounded_cutShort h)
  · exact h

theorem bounded_resetBlocks (straps : Straps) {s : State} (h : Bounded s) : Bounded (resetBlocks straps s) := by
  refine ⟨fun i => ?_, Nat.zero_le _, Nat.zero_le _, h.cwc⟩
  unfold resetBlocks
  rw [tabulate_get]
  exact goodAccount_of_same ⟨rfl, rfl, rfl, rfl, rfl, rfl⟩ goodAccount_reset

theorem onlyCwc_respondAll (r : Response) (bs : List Block) (s : State) : OnlyCwc s (respondAll r bs s) := by
  induction bs generalizing s with
  | nil => exact .refl s
  | cons b bs ih => exact (onlyCwc_respond b r s).trans (ih _)

theorem bounded_completeAll (cause : EndCause) {s : State} (h : Bounded s) : Bounded (completeAll cause s) := by
  have done : Bounded (finishBlocks cause s) := (moves_finishBlocks cause s).bounded h
  have all := done.of_cwc ((onlyCwc_respondAll .cardReset (finishBlocks cause s).cwc.urgent _).trans
      (onlyCwc_respondAll .cardReset (finishBlocks cause s).cwc.plan _))
    (cwcBounded_respondAll _ _ (cwcBounded_respondAll _ _ done.cwc))
  refine all.of_cwc (onlyCwc_withCwc _ _)
    (all.cwc.shrink all.cwc.badPosts all.cwc.attention (List.nil_sublist _) (List.nil_sublist _) fun x hx => ?_)
  rw [mem_heldBlocks] at hx ⊢
  rcases hx with hx | hx | hx | hx | hx
  · exact .inl hx
  · exact .inr (.inl hx)
  · exact .inr (.inr (.inl hx))
  · exact absurd hx List.not_mem_nil
  · exact absurd hx List.not_mem_nil

/-! ## Messages and times -/

theorem bounded_elapse (n : Nat) {s : State} (h : Bounded s) : Bounded (elapse n s) := ⟨h.accounts, h.strays, h.alerts, h.cwc⟩

theorem bounded_applyContact (mask : SiteMask) {s : State} (h : Bounded s) : Bounded (applyContact mask s) := by
  refine h.of_same (fun i => ?_) rfl rfl rfl
  unfold applyContact
  rw [tabulate_get]
  dsimp only
  split <;> exact .refl _

theorem moves_continueStart (s : State) : Moves s (continueStart s) := by
  unfold continueStart
  split
  · exact .refl
  · refine moves_ite (moves_endRun _ s) (Moves.after (moves_run _ id) ?_)
    cases s.run.group with
    | none => exact .refl
    | some g => exact (linkSideOnly_joinGroup g s).moves

theorem bounded_startTimer (i : Site) {s : State} (h : Bounded s) : Bounded (startTimer i s) := by
  refine h.of_same (fun j => ?_) rfl rfl rfl
  rw [startTimer_site]
  split
  next hj => rw [hj]; exact .refl _
  · exact .refl _

theorem bounded_foldl {f : State → Site → State} (hf : ∀ s i, Bounded s → Bounded (f s i)) (l : List Site) {s : State} (h : Bounded s) :
    Bounded (l.foldl f s) := by
  induction l generalizing s with
  | nil => exact h
  | cons i l ih => exact ih (hf s i h)

theorem bounded_acceptEffect (r : Request) {s : State} (h : Bounded s) : Bounded (acceptEffect r s) := by
  cases r with
  | operate _ _ _ mask =>
    have started : Bounded (startTimers mask s) := bounded_foldl (fun s i => bounded_startTimer i) _ h
    exact started.run _
  | contactCheck | compare | drop | abandon => exact h

theorem bounded_hciIdle {s : State} (h : Bounded s) : Bounded (hciIdle s) := ⟨h.accounts, h.strays, h.alerts, h.cwc⟩

theorem bounded_takeAccept {s : State} (h : Bounded s) : Bounded (takeAccept s) := by
  unfold takeAccept
  split
  · split
    · exact bounded_settle (bounded_acceptEffect _ (bounded_hciIdle h))
    · exact bounded_addStrays 1 h
  · exact bounded_addStrays 1 h

theorem bounded_compareFailure (e : ResultEntry) {s : State} (h : Bounded s) : Bounded (compareFailure e s) := by
  cases hu : s.run.inflight with
  | none => unfold compareFailure; rw [hu]; exact h
  | some u => rw [compareFailure_eq hu]; exact bounded_updSite _ (fun _ => goodAccount_compareRec _ _ _ _) h

theorem bounded_resultEntries (mask : SiteMask) (named : List Site) (es : List ResultEntry) {s : State} (h : Bounded s) :
    Bounded (resultEntries mask named es s) := by
  induction es generalizing named s with
  | nil => exact h
  | cons e es ih =>
    refine ih _ ?_
    split
    · exact bounded_compareFailure e h
    · exact bounded_addStrays 1 h

theorem bounded_takeResult (es : List ResultEntry) {s : State} (h : Bounded s) : Bounded (takeResult es s) := by
  unfold takeResult
  split
  · exact bounded_settle ((bounded_resultEntries _ _ _ (bounded_hciIdle h)).run _)
  · exact bounded_addStrays 1 h

theorem bounded_stopTimerAt (i : Site) (v : Nat) {s : State} (h : Bounded s) : Bounded (stopTimerAt i v s) := by
  refine h.of_same (fun j => ?_) rfl rfl rfl
  rw [stopTimerAt_site]
  split
  next hj => rw [hj]; exact .refl _
  · exact .refl _

theorem bounded_readySite (i : Site) {s : State} (h : Bounded s) : Bounded (readySite i s) := by
  unfold readySite
  split
  · have stopped := bounded_stopTimerAt i (busyTime i s) h
    cases ht : s.timers.timed with
    | none => unfold judgeBusyTime; rw [show (stopTimerAt i (busyTime i s) s).timers.timed = none from ht]; exact stopped
    | some t =>
      rw [judgeBusyTime_eq (s := stopTimerAt i (busyTime i s) s) ht]
      exact bounded_updSite _ (fun _ => goodAccount_judgeRec _ _ _) stopped
  · exact bounded_addStrays 1 h

theorem bounded_takeOvercurrent (i : Site) {s : State} (h : Bounded s) : Bounded (takeOvercurrent i s) := by
  unfold takeOvercurrent
  split
  · exact h
  next hs =>
    have tripped : Bounded (cancelDrop i (tripSite i s)) := by
      unfold tripSite
      rw [if_neg hs]
      obtain ⟨ha, hst, hc, hw⟩ := bounded_stopTimerAt i s.timers.values[i]
        (bounded_updSite i (f := fun x => { x with state := .tripped, bin := match s.store.profile with
          | some pr => if s.sites[i].bin = 0 then pr.tripBin else s.sites[i].bin
          | none => s.sites[i].bin }) (fun _ hx => hx) h)
      exact ⟨ha, hst, hc, hw⟩
    refine bounded_settle ?_
    split
    · rw [recordFailure_eq]
      obtain ⟨ha, hst, hc, hw⟩ := bounded_updSite i (fun _ => goodAccount_failRec (cancelDrop i (tripSite i s)).run.inflight .alarm 0 none) tripped
      exact ⟨ha, hst, hc, hw⟩
    · exact tripped

theorem bounded_passDeadline {s : State} (h : Bounded s) : Bounded (passDeadline s) := by
  unfold passDeadline
  split
  · exact h
  · refine bounded_settle ((moves_endRun _ _).bounded (bounded_hciPump (bounded_hciIdle ?_)))
    unfold fillError
    split
    · exact bounded_elapse _ h
    · exact ⟨h.accounts, h.strays, h.alerts, h.cwc⟩

theorem bounded_passHighLimit (i : Site) {s : State} (h : Bounded s) : Bounded (passHighLimit i s) := by
  unfold passHighLimit
  split
  · exact h
  next t _ =>
    split
    · refine bounded_settle ?_
      unfold expireSite
      rw [busyFailure_eq]
      obtain ⟨ha, hst, hc, hw⟩ := bounded_updSite i (fun _ => goodAccount_busyFailRec
        (stopTimerAt i t.limits.high (elapse (t.limits.high - s.timers.values[i]) s)).run.inflight .slow t.limits.high t)
        (bounded_stopTimerAt i t.limits.high (bounded_elapse (t.limits.high - s.timers.values[i]) h))
      exact ⟨ha, hst, hc, hw⟩
    · exact h

theorem bounded_passDwell {s : State} (h : Bounded s) : Bounded (passDwell s) := by
  unfold passDwell
  split
  · exact bounded_settle ((bounded_elapse _ h).run _)
  · exact h

theorem moves_decideSync (s : State) : Moves s (decideSync s) := by
  unfold decideSync
  split
  · exact .refl
  · split
    · exact moves_run _ id
    · exact moves_endRun _ s

theorem bounded_passSyncTimeout {s : State} (h : Bounded s) : Bounded (passSyncTimeout s) := by
  unfold passSyncTimeout
  split
  · exact h
  next r _ =>
    split
    · exact bounded_settle (Moves.bounded (Moves.after (moves_decideSync _) (Moves.after (linkSideOnly_syncTimedOut _).moves
        (moves_run _ id))) (bounded_elapse r h))
    · exact h

theorem bounded_passSupplyWait {s : State} (h : Bounded s) : Bounded (passSupplyWait s) := by
  unfold passSupplyWait
  split
  · exact h
  next r _ =>
    split
    · exact bounded_settle (Moves.bounded (Moves.after (moves_endRun _ _) (Moves.after (moves_giveUp _) (moves_run _ id)))
        (bounded_elapse r h))
    · exact h

theorem bounded_passResumeGuard {s : State} (h : Bounded s) : Bounded (passResumeGuard s) := by
  unfold passResumeGuard
  split
  · exact h
  · have guard : Bounded { elapse s.run.guardRem s with run := { (elapse s.run.guardRem s).run with guardRem := 0 } } :=
      (bounded_elapse _ h).run _
    dsimp only
    split
    · exact bounded_settle ((moves_pauseTakesEffect _).bounded guard)
    · exact guard

theorem bounded_passRollWindow {s : State} (h : Bounded s) : Bounded (passRollWindow s) := by
  unfold passRollWindow
  split
  · exact h
  next r _ => exact bounded_settle ((linkSideOnly_link _ _).moves.bounded (bounded_elapse r h))

theorem bounded_carried (x : Station) (f : Option Frame) {s : State} (h : Bounded s) : Bounded (carried x f s) := by
  rcases carried_cases x f s with hc | ⟨u, hm, hc⟩
  · rw [hc]; exact h
  · rw [hc]; exact bounded_settle (hm.moves.bounded h)

theorem bounded_alertRises {s : State} (h : Bounded s) : Bounded (alertRises s) := by
  have risen : Bounded { s with alert := { s.alert with level := true } } := ⟨h.accounts, h.strays, h.alerts, h.cwc⟩
  unfold alertRises
  split
  · exact h
  · dsimp only
    split
    · exact risen
    · unfold riseEffect
      split
      · exact bounded_settle ((moves_endRun _ _).bounded risen)
      · exact ⟨h.accounts, h.strays, satAdd_le _ _ _, h.cwc⟩

/-- A change of the Alert Monitor that leaves its count. -/
theorem Bounded.alert {s : State} (h : Bounded s) (a : AlertMonitor) (ha : a.count = s.alert.count) : Bounded { s with alert := a } :=
  ⟨h.accounts, h.strays, ha ▸ h.alerts, h.cwc⟩

/-! ## Every command, every step -/

theorem bounded_exec {c : Instr} {s t : State} (h : Bounded s) (he : exec c s = .next t) : Bounded t := by
  cases c with
  | windowWrite offset v => exact bounded_windowWrite h he
  | powerOnReset straps lines => obtain rfl := Host.Outcome.next.inj he; exact bounded_resetCard straps lines s
  | backplaneReset straps lines => obtain rfl := Host.Outcome.next.inj he; exact bounded_resetCard straps lines s
  | postFirstByte v => obtain rfl := Host.Outcome.next.inj he; exact bounded_holdPostByte v h
  | post v => obtain rfl := Host.Outcome.next.inj he; exact bounded_takePost _ h
  | attentionFirstByte v => obtain rfl := Host.Outcome.next.inj he; exact bounded_holdAttentionByte v h
  | attentionAcknowledge v => obtain rfl := Host.Outcome.next.inj he; exact bounded_attentionSecondByte v h
  | setProfile | defineStep | deleteSteps | setStopOption =>
    obtain rfl := Host.Outcome.next.inj he
    exact bounded_serve h fun b x _ hx => bounded_guarded hx (bounded_respond b .ok ⟨hx.accounts, hx.strays, hx.alerts, hx.cwc⟩)
  | run => obtain rfl := Host.Outcome.next.inj he; exact bounded_serve h fun b x hb hx => bounded_guarded hx (bounded_startRun hb hx)
  | siteRestore =>
    obtain rfl := Host.Outcome.next.inj he
    exact bounded_serve h fun b x _ hx => bounded_guarded hx (bounded_respond b .ok (bounded_restoreSites b.opMask hx))
  | clearResults =>
    obtain rfl := Host.Outcome.next.inj he
    exact bounded_serve h fun b x _ hx => bounded_guarded hx (bounded_respond b .ok (bounded_clearAccounts hx))
  | readStatus | readResult | readPeers =>
    obtain rfl := Host.Outcome.next.inj he
    exact bounded_serve h fun b x _ hx => bounded_respondWith b .ok _ hx
  | readSite | readBadBlocks =>
    obtain rfl := Host.Outcome.next.inj he
    refine bounded_serve h fun b x _ hx => ?_
    first | unfold readSiteOwner | unfold readBadBlocksOwner
    split
    · exact bounded_respond _ _ hx
    · exact bounded_respondWith _ _ _ hx
  | readFailLog => obtain rfl := Host.Outcome.next.inj he; exact bounded_serve h fun b x _ hx => bounded_readFailLog b hx
  | rewindLog =>
    obtain rfl := Host.Outcome.next.inj he
    exact bounded_serve h fun b x _ hx => bounded_guarded hx (bounded_respond b .ok (bounded_rewindLogs b.opMask hx))
  | snapshot =>
    obtain rfl := Host.Outcome.next.inj he
    refine bounded_serve h fun b x _ hx => ?_
    unfold snapshotOwner
    split
    · exact bounded_respond _ _ hx
    · exact bounded_respond _ _ ⟨hx.accounts, hx.strays, hx.alerts, hx.cwc⟩
  | readSnapshot =>
    obtain rfl := Host.Outcome.next.inj he
    refine bounded_serve h fun b x _ hx => ?_
    unfold readSnapshotOwner
    split
    · exact bounded_respondWith _ _ _ ⟨hx.accounts, hx.strays, hx.alerts, hx.cwc⟩
    · exact bounded_respondWith _ _ _ hx
  | pause => obtain rfl := Host.Outcome.next.inj he; exact bounded_serve h fun b x hb hx => bounded_guarded hx (bounded_acceptPause hb hx)
  | resume => obtain rfl := Host.Outcome.next.inj he; exact bounded_serve h fun b x _ hx => bounded_resumeOwner b hx
  | abort => obtain rfl := Host.Outcome.next.inj he; exact bounded_serve h fun b x hb hx => bounded_abortOwner hb hx
  | raiseAlert | clearAlert =>
    obtain rfl := Host.Outcome.next.inj he
    exact bounded_serve h fun b x _ hx => bounded_respond b .ok (hx.alert _ rfl)
  | cardReset straps =>
    obtain rfl := Host.Outcome.next.inj he
    exact bounded_serve h fun b x _ hx =>
      bounded_respond b .ok (bounded_completeAll _ (bounded_resetBlocks straps (bounded_endRunForReset hx)))
  | contact mask =>
    obtain rfl := Host.Outcome.next.inj he
    unfold takeContact
    split
    · exact bounded_settle ((moves_continueStart _).bounded (bounded_applyContact mask (bounded_hciIdle h)))
    · exact bounded_addStrays 1 h
  | accept => obtain rfl := Host.Outcome.next.inj he; exact bounded_takeAccept h
  | result es => obtain rfl := Host.Outcome.next.inj he; exact bounded_takeResult es h
  | ready mask n =>
    obtain rfl := Host.Outcome.next.inj he
    exact bounded_settle (bounded_foldl (fun s i => bounded_readySite i) _ (bounded_elapse n h))
  | alarmSiteOvercurrent i => obtain rfl := Host.Outcome.next.inj he; exact bounded_takeOvercurrent i h
  | alarmHeadFault => obtain rfl := Host.Outcome.next.inj he; exact bounded_settle (((moves_endRun _ s).bounded h).alert _ rfl)
  | replyDeadline => obtain rfl := Host.Outcome.next.inj he; exact bounded_passDeadline h
  | highLimitExpiry i => obtain rfl := Host.Outcome.next.inj he; exact bounded_passHighLimit i h
  | dwellExpiry => obtain rfl := Host.Outcome.next.inj he; exact bounded_passDwell h
  | syncTimeout => obtain rfl := Host.Outcome.next.inj he; exact bounded_passSyncTimeout h
  | supplyWaitExpiry => obtain rfl := Host.Outcome.next.inj he; exact bounded_passSupplyWait h
  | resumeGuardExpiry => obtain rfl := Host.Outcome.next.inj he; exact bounded_passResumeGuard h
  | rollWindowExpiry => obtain rfl := Host.Outcome.next.inj he; exact bounded_passRollWindow h
  | frameStart => obtain rfl := Host.Outcome.next.inj he; exact (linkSideOnly_startFrame s).moves.bounded h
  | arbitrationLost => obtain rfl := Host.Outcome.next.inj he; exact bounded_settle ((linkSideOnly_loseAttempt s).moves.bounded h)
  | frameVoid => obtain rfl := Host.Outcome.next.inj he; exact bounded_settle ((linkMoves_voidAttempt s).moves.bounded h)
  | release | withdraw | leave | state | roll | mark | wait | claim =>
    obtain rfl := Host.Outcome.next.inj he
    exact bounded_carried _ _ h
  | alertRise => obtain rfl := Host.Outcome.next.inj he; exact bounded_alertRises h
  | alertFall =>
    obtain rfl := Host.Outcome.next.inj he
    unfold alertFalls
    split
    · exact h
    · exact h.alert _ rfl
  | railFail =>
    obtain rfl := Host.Outcome.next.inj he
    unfold railFails
    dsimp only
    split
    · exact h.alert _ rfl
    · exact bounded_haltCard (h.alert _ rfl)
  | railFailRelease => obtain rfl := Host.Outcome.next.inj he; exact h.alert _ rfl

/-- Settles O55: every command keeps the accounts, the counters and the queues in range, and so does a tick. -/
theorem countsStayInRange : Obligations.CountsStayInRange := by
  intro s t h hst
  rw [← bounded_iff] at h ⊢
  unfold step at hst
  split at hst
  · obtain rfl := Host.Outcome.next.inj hst
    exact bounded_elapse 1 h
  next c rest _ => exact bounded_exec (s := s.withPending rest) ⟨h.accounts, h.strays, h.alerts, h.cwc⟩ hst

end Sys2Proof.Machine
end

section
/-! What the commands do to the contact exchange and to the bins: all but a few are chains of moves that keep the exchange, take an end cause,
free or pump the HCI, and settle. The invariant of the ACTIVE sites and the standing of the bins follow from the same chains. -/

namespace Sys2Proof.Machine

/-! ## Changes that keep the contact exchange -/

/-- A site record keeps its standing: it trips, keeping a bin that is set, or retires from ACTIVE, or state and bin stay (R4, R5). -/
def SiteKept (x y : SiteRec) : Prop :=
  (y.state = .tripped ∧ (x.bin ≠ 0 → y.bin = x.bin)) ∨ (x.state = .active ∧ y.state = .retired)
  ∨ (y.state = x.state ∧ y.bin = x.bin)

theorem SiteKept.refl (x : SiteRec) : SiteKept x x := .inr (.inr ⟨rfl, rfl⟩)

theorem SiteKept.of_spares {x y : SiteRec} (h : Spares x y) : SiteKept x y := by
  by_cases hx : x.state = .active
  · obtain ⟨hs, hb⟩ | hs := h.active hx
    · exact .inr (.inr ⟨hs.trans hx.symm, hb⟩)
    · exact .inr (.inl ⟨hx, hs⟩)
  · exact .inr (.inr (h.still hx))

/-- The request whose reply is awaited. -/
def Hci.asked (h : Hci) : Option Request := h.outstanding.map (·.request)

theorem contactPending_iff (h : Hci) : ContactPending h ↔ h.asked = some .contactCheck ∨ h.held = some .contactCheck := by
  simp [ContactPending, Hci.asked]

/-- A change that keeps the standing of the sites and the contact exchange: no run becomes IDLE, a run in its start sequence stays in it,
and the requests of the HCI and the ending stand. -/
structure ContactKept (s t : State) : Prop where
  site : ∀ i : Site, SiteKept s.sites[i] t.sites[i]
  seq : t.run.seq = .idle → s.run.seq = .idle
  stage : s.run.stage = .contact → t.run.stage = .contact
  ending : t.run.ending = s.run.ending
  teardown : t.run.teardown = s.run.teardown
  held : t.hci.held = s.hci.held
  asked : t.hci.asked = some .contactCheck ↔ s.hci.asked = some .contactCheck

/-- A change of other blocks than the sites, the run and the HCI. -/
theorem contactKept_of_eq {s t : State} (hs : t.sites = s.sites := by rfl) (hr : t.run = s.run := by rfl)
    (hh : t.hci = s.hci := by rfl) : ContactKept s t := by
  constructor <;> simp [hs, hr, hh, SiteKept.refl]

/-- A change of the run that keeps what the contact exchange reads of it. -/
theorem contactKept_run {s : State} (x : Run) (hq : x.seq = .idle → s.run.seq = .idle := by exact id)
    (hst : s.run.stage = .contact → x.stage = .contact := by exact id) (he : x.ending = s.run.ending := by rfl)
    (ht : x.teardown = s.run.teardown := by rfl) : ContactKept s { s with run := x } :=
  ⟨fun _ => .refl _, hq, hst, he, ht, rfl, .rfl⟩

/-- A change of sites, timers and HCI that keeps the standing of the sites and the requests. -/
theorem contactKept_sites {s t : State} (hs : ∀ i : Site, SiteKept s.sites[i] t.sites[i]) (hr : t.run = s.run)
    (hh : t.hci.held = s.hci.held) (ha : t.hci.asked = s.hci.asked) : ContactKept s t :=
  ⟨hs, fun h => hr ▸ h, fun h => hr ▸ h, by rw [hr], by rw [hr], hh, by rw [ha]⟩

theorem OnlyCwc.contactKept {s t : State} (h : OnlyCwc s t) : ContactKept s t := by
  rw [h.eq]
  exact contactKept_of_eq

theorem LinkSideOnly.contactKept {s t : State} (h : LinkSideOnly s t) : ContactKept s t := by
  obtain ⟨l, p, r, y, rfl⟩ := h
  exact contactKept_of_eq

theorem contactKept_updSite (i : Site) {f : SiteRec → SiteRec} (hf : ∀ x, SiteKept x (f x)) (s : State) :
    ContactKept s (updSite i f s) := by
  refine contactKept_sites (fun j => ?_) rfl rfl rfl
  rw [updSite_get]
  split
  next h => rw [h]; exact hf _
  · exact .refl _

theorem contactKept_syncPassed (s : State) : ContactKept s (syncPassed s) := by
  unfold syncPassed
  split
  next hq =>
    split
    next h => exact contactKept_run _ id (fun hc => by rw [h.2] at hc; cases hc) rfl rfl
    · exact contactKept_of_eq
  · exact contactKept_run _
  · exact contactKept_run _
  · exact contactKept_of_eq

/-! ## Events as chains -/

/-- One part of an event: the contact exchange is kept, a cause that sends ABANDON ends the run, the HCI becomes IDLE or sends what is due, or
the card settles. -/
inductive EventMove : State → State → Prop
  | kept (s t : State) (h : ContactKept s t) : EventMove s t
  | endRun (s : State) (cause : EndCause) (hc : cause ≠ .complete) (hn : cause ≠ .noSites) : EventMove s (endRun cause s)
  | idle (s : State) : EventMove s (hciIdle s)
  | pump (s : State) : EventMove s (hciPump s)
  | settle (s : State) : EventMove s (settle s)

/-- A chain of such parts. -/
abbrev EventMoves : State → State → Prop := Relation.ReflTransGen EventMove

/-- What every part of an event keeps, the event keeps. -/
theorem EventMoves.keeps {P : State → Prop} (h : ∀ s t, EventMove s t → P s → P t) {s t : State} (hm : EventMoves s t) (hs : P s) :
    P t := by
  induction hm with
  | refl => exact hs
  | tail _ hb ih => exact h _ _ hb ih

theorem ContactKept.event {s t : State} (h : ContactKept s t) : EventMoves s t := .single (.kept s t h)

/-- One chain after another, the last one first. -/
theorem EventMoves.after {s t u : State} (h' : EventMoves t u) (h : EventMoves s t) : EventMoves s u := .trans h h'

theorem EventMoves.settled {s t : State} (h : EventMoves s t) : EventMoves s (Machine.settle t) := .tail h (.settle t)

theorem LinkMoves.event {s t : State} (h : LinkMoves s t) : EventMoves s t :=
  h.keeps (P := EventMoves s) (fun _ _ hm hs => match hm with
    | .link _ _ h => hs.trans h.contactKept.event
    | .endRun _ cause hc hn => hs.tail (.endRun _ cause hc hn)
    | .syncPassed _ => hs.trans (contactKept_syncPassed _).event) .refl

theorem eventMoves_ite {c : Prop} [Decidable c] {s t u : State} (ht : EventMoves s t) (hu : EventMoves s u) :
    EventMoves s (if c then t else u) := by
  split
  · exact ht
  · exact hu

theorem contactKept_elapse (n : Nat) (s : State) : ContactKept s (elapse n s) := by
  refine ⟨fun _ => .refl _, id, id, rfl, rfl, rfl, ?_⟩
  have asked : (elapse n s).hci.asked = s.hci.asked := by
    show (s.hci.outstanding.map _).map _ = s.hci.outstanding.map _
    rw [Option.map_map]
    rfl
  rw [asked]

theorem contactKept_cancelDrop (i : Site) (s : State) : ContactKept s (cancelDrop i s) :=
  contactKept_sites (fun _ => .refl _) rfl rfl rfl

theorem contactKept_addPendingDrop (i : Site) (s : State) : ContactKept s (addPendingDrop i s) :=
  contactKept_sites (fun _ => .refl _) rfl rfl rfl

theorem contactKept_addStrays (n : Nat) (s : State) : ContactKept s (addStrays n s) :=
  contactKept_sites (fun _ => .refl _) rfl rfl rfl

/-! ## Served commands -/

theorem contactKept_takeBlock {s s0 : State} {b : Block} (h : takeBlock s = some (b, s0)) : ContactKept s s0 := by
  rw [takeBlock_eq h]
  exact contactKept_of_eq

theorem contactKept_respond (b : Block) (r : Response) (s : State) : ContactKept s (respond b r s) := (onlyCwc_respond b r s).contactKept

theorem onlyCwc_respondWith (b : Block) (r : Response) (data : List Byte) (s : State) : OnlyCwc s (respondWith b r data s) :=
  (onlyCwc_writeBytes _ _ s).trans (onlyCwc_respond _ _ _)

/-- Serving is a chain when the owner's work is. -/
theorem eventMoves_serve {c : Cmd} {owner : Block → State → State} {s : State}
    (ho : ∀ (b : Block) (x : State), EventMoves x (owner b x)) : EventMoves s (serve c owner s) := by
  rcases serve_cases c owner s with hs | ⟨b, s0, ht, _, ⟨r, _, hs⟩ | ⟨_, hs⟩⟩
  · rw [hs]
  · rw [hs]; exact (contactKept_takeBlock ht).event.trans (contactKept_respond b r s0).event
  · rw [hs]; exact (contactKept_takeBlock ht).event.trans (ho b s0)

theorem eventMoves_guarded {b : Block} {conds : List (Bool × Response)} {act : State → State} {s : State}
    (ha : firstRefusal conds = none → EventMoves s (act s)) : EventMoves s (guarded b conds act s) := by
  unfold guarded
  split
  · exact (contactKept_respond _ _ _).event
  next h => exact ha h

/-- A change of other blocks, and then a completion. -/
theorem eventMoves_respond_of_eq (b : Block) (r : Response) {s t : State} (hs : t.sites = s.sites) (hr : t.run = s.run)
    (hh : t.hci = s.hci) : EventMoves s (respond b r t) :=
  (contactKept_of_eq hs hr hh).event.trans (contactKept_respond b r t).event

/-- Conditions none of which refuses: the first does not hold. -/
theorem firstRefusal_none {c : Bool} {r : Response} {rest : List (Bool × Response)} (h : firstRefusal ((c, r) :: rest) = none) :
    c = false ∧ firstRefusal rest = none := by
  unfold firstRefusal at h
  split at h
  · cases h
  next hc => exact ⟨by simpa using hc, h⟩

theorem eventMoves_pauseTakesEffect (s : State) : EventMoves s (pauseTakesEffect s) := by
  have effect : EventMoves s (recordResume { s with run := { s.run with seq := .pausing, heldPause := false } }) :=
    (contactKept_run { s.run with seq := .pausing, heldPause := false, resume := resumePoint _ } (by simp) id rfl rfl).event
  exact eventMoves_ite (effect.trans (linkSideOnly_giveUp _).contactKept.event) effect

theorem eventMoves_acceptPause (b : Block) (s : State) : EventMoves s (acceptPause b s) := by
  have outstanding : EventMoves s { s with cwc := { s.cwc with outPause := some b } } := (contactKept_of_eq).event
  exact eventMoves_ite (outstanding.trans (contactKept_run _).event)
    (EventMoves.settled (outstanding.trans (eventMoves_pauseTakesEffect _)))

theorem contactKept_releaseSyncPass (s : State) : EventMoves s (releaseSyncPass s) := by
  have taken : EventMoves s { s with run := { s.run with heldSyncPass := false } } := (contactKept_run _).event
  unfold releaseSyncPass
  split
  · dsimp only
    split
    next hst => exact EventMoves.after (contactKept_run _ (hst := by rw [hst]; simp)).event taken
    · exact taken
  · exact .refl

theorem contactKept_cancelPausing (s : State) : ContactKept s (cancelPausing s) := by
  refine contactKept_run _ (by simp) (fun hc => ?_) rfl rfl
  dsimp only
  rw [hc]
  split <;> rfl

theorem eventMoves_resumeRun (s : State) : EventMoves s (resumeRun s) := by
  unfold resumeRun
  split
  · exact EventMoves.after (onlyCwc_finishPause _ _).contactKept.event (contactKept_run _).event
  · exact EventMoves.after (onlyCwc_finishPause _ _).contactKept.event
      ((contactKept_cancelPausing s).event.trans (contactKept_releaseSyncPass _))
  · exact EventMoves.after (contactKept_releaseSyncPass _) (contactKept_run _ (by simp)).event
  · exact .refl

theorem eventMoves_resumeOwner (b : Block) (s : State) : EventMoves s (resumeOwner b s) :=
  eventMoves_guarded fun _ => EventMoves.settled (EventMoves.after (contactKept_respond _ _ _).event
    (EventMoves.after (contactKept_run _).event (eventMoves_resumeRun s)))

theorem eventMoves_abortOwner (b : Block) (s : State) : EventMoves s (abortOwner b s) :=
  eventMoves_guarded fun _ => EventMoves.settled (EventMoves.after (.single (.endRun _ .aborted (by simp) (by simp)))
    (contactKept_of_eq).event)

/-- A read cursor moved leaves the standing of every site. -/
theorem contactKept_rewindLogs (mask : SiteMask) (s : State) : ContactKept s (rewindLogs mask s) := by
  refine contactKept_sites (fun i => ?_) rfl rfl rfl
  unfold rewindLogs
  rw [tabulate_get]
  split <;> exact .refl _

theorem eventMoves_readFailLog (b : Block) (s : State) : EventMoves s (readFailLogOwner b s) := by
  unfold readFailLogOwner
  split
  · exact (contactKept_respond _ _ _).event
  next i _ =>
    have read : ContactKept s (updSite i (fun x => { x with cursor := x.cursor + unreadCount b.most s.sites[i] }) s) :=
      contactKept_updSite i (by intro x; exact .inr (.inr ⟨rfl, rfl⟩)) s
    exact eventMoves_guarded fun _ => read.event.trans (onlyCwc_respondWith _ _ _ _).contactKept.event

/-! ## Posts -/

theorem onlyCwc_enqueue (b : Block) (s : State) : OnlyCwc s (enqueue b s) := by
  unfold enqueue
  split
  · exact onlyCwc_respond _ _ s
  · split <;> split
    · exact onlyCwc_withCwc _ s
    · exact onlyCwc_respond _ _ s
    · exact onlyCwc_withCwc _ s
    · exact onlyCwc_respond _ _ s

theorem onlyCwc_takePost (v : BitVec 16) (s : State) : OnlyCwc s (takePost v s) := by
  have posted : OnlyCwc s { s with cwc := { s.cwc with postCell := v } } := onlyCwc_withCwc _ s
  unfold takePost
  dsimp only
  split
  · exact (posted.trans (onlyCwc_writeArea _ _ _)).trans (onlyCwc_enqueue _ _)
  · exact onlyCwc_withCwc _ s

theorem onlyCwc_windowWrite {offset : Nat} {v : Byte} {s t : State} (he : execWindowWrite offset v s = .next t) : OnlyCwc s t := by
  rcases windowWrite_cases he with rfl | rfl | rfl | rfl | rfl
  · exact onlyCwc_withCwc _ s
  · exact onlyCwc_takePost _ s
  · exact onlyCwc_withCwc _ s
  · exact onlyCwc_withCwc _ s
  · exact onlyCwc_writeArea _ _ s

/-! ## Messages of the head -/

theorem contactKept_startTimer (i : Site) (s : State) : ContactKept s (startTimer i s) := by
  refine contactKept_sites (fun j => ?_) rfl rfl rfl
  rw [startTimer_site]
  split
  next h => rw [h]; exact .refl _
  · exact .refl _

theorem contactKept_stopTimerAt (i : Site) (v : Nat) (s : State) : ContactKept s (stopTimerAt i v s) := by
  refine contactKept_sites (fun j => ?_) rfl rfl rfl
  rw [stopTimerAt_site]
  split
  next h => rw [h]; exact .refl _
  · exact .refl _

theorem eventMoves_foldl {f : State → Site → State} (hf : ∀ s i, EventMoves s (f s i)) (l : List Site) (s : State) :
    EventMoves s (l.foldl f s) := by
  induction l generalizing s with
  | nil => exact .refl
  | cons i l ih => exact (hf s i).trans (ih _)

theorem eventMoves_acceptEffect (r : Request) (s : State) : EventMoves s (acceptEffect r s) := by
  cases r with
  | operate _ _ _ mask =>
    exact EventMoves.after (contactKept_run _).event
      (eventMoves_foldl (fun s i => (contactKept_startTimer i s).event) _ s)
  | contactCheck | compare | drop | abandon => exact .refl

theorem eventMoves_takeAccept (s : State) : EventMoves s (takeAccept s) := by
  unfold takeAccept
  split
  · exact eventMoves_ite (EventMoves.settled (EventMoves.after (eventMoves_acceptEffect _ _) (.single (.idle s))))
      (contactKept_addStrays 1 s).event
  · exact (contactKept_addStrays 1 s).event

theorem contactKept_compareFailure (e : ResultEntry) (s : State) : ContactKept s (compareFailure e s) := by
  cases hu : s.run.inflight with
  | none => unfold compareFailure; rw [hu]; exact contactKept_of_eq
  | some u => rw [compareFailure_eq hu]; exact contactKept_updSite _ (fun x => .of_spares (spares_compareRec _ _ _ _ x)) s

theorem eventMoves_resultEntries (mask : SiteMask) (named : List Site) (es : List ResultEntry) (s : State) :
    EventMoves s (resultEntries mask named es s) := by
  induction es generalizing named s with
  | nil => exact .refl
  | cons e es ih =>
    refine EventMoves.after (ih _ _) ?_
    exact eventMoves_ite (contactKept_compareFailure e s).event (contactKept_addStrays 1 s).event

theorem eventMoves_takeResult (es : List ResultEntry) (s : State) : EventMoves s (takeResult es s) := by
  unfold takeResult
  split
  · exact EventMoves.settled (EventMoves.after (contactKept_run _).event
      (EventMoves.after (eventMoves_resultEntries _ _ _ _) (.single (.idle s))))
  · exact (contactKept_addStrays 1 s).event

theorem eventMoves_readySite (i : Site) (s : State) : EventMoves s (readySite i s) := by
  have stopped := (contactKept_stopTimerAt i (busyTime i s) s).event
  refine eventMoves_ite (stopped.trans ?_) (contactKept_addStrays 1 s).event
  cases ht : s.timers.timed with
  | none =>
    unfold judgeBusyTime
    rw [show (stopTimerAt i (busyTime i s) s).timers.timed = none from ht]
  | some t =>
    rw [judgeBusyTime_eq (s := stopTimerAt i (busyTime i s) s) ht]
    exact (contactKept_updSite _ (fun x => .of_spares (spares_judgeRec _ _ _ x)) _).event

/-- The record of a site that trips: TRIPPED, with the trip bin if it has none and a profile is set (R5). -/
def tripRec (pr : Option Profile) (x : SiteRec) : SiteRec :=
  { x with
    state := .tripped
    busy := false
    bin := match pr with
      | some pr => if x.bin = 0 then pr.tripBin else x.bin
      | none => x.bin }

theorem tripSite_site {i : Site} {s : State} (h : s.sites[i].state ≠ .tripped) (j : Site) :
    (tripSite i s).sites[j] = if j = i then tripRec s.store.profile s.sites[i] else s.sites[j] := by
  unfold tripSite
  rw [if_neg h]
  dsimp only
  rw [stopTimerAt_site, updSite_get, updSite_get]
  split
  · rw [if_pos rfl]; rfl
  · rfl

theorem siteKept_tripRec (pr : Option Profile) (x : SiteRec) : SiteKept x (tripRec pr x) := by
  refine .inl ⟨rfl, fun hb => ?_⟩
  unfold tripRec
  cases pr with
  | none => rfl
  | some pr => exact if_neg hb

/-- Tripping a site touches the sites and the timers alone. -/
theorem tripSite_others (i : Site) (s : State) : (tripSite i s).run = s.run ∧ (tripSite i s).hci = s.hci := by
  unfold tripSite
  split <;> exact ⟨rfl, rfl⟩

theorem contactKept_tripSite {i : Site} {s : State} (h : s.sites[i].state ≠ .tripped) : ContactKept s (tripSite i s) := by
  obtain ⟨hr, hh⟩ := tripSite_others i s
  refine contactKept_sites (fun j => ?_) hr (by rw [hh]) (by rw [hh])
  rw [tripSite_site h]
  split
  next hj => rw [hj]; exact siteKept_tripRec _ _
  · exact .refl _

theorem contactKept_recordFailure (i : Site) (kind : FailKind) (v : Nat) (o : Option (BitVec 32)) (s : State) :
    ContactKept s (recordFailure i kind v o s) := by
  rw [recordFailure_eq]
  exact contactKept_updSite i (fun x => .of_spares (spares_failRec _ _ _ _ x)) s

/-- Taking a site out of the unit changes at most the mask of an awaited COMPARE (R17). -/
theorem contactKept_leaveUnit (i : Site) (s : State) : ContactKept s (leaveUnit i s) := by
  refine ⟨fun _ => .refl _, id, id, rfl, rfl, rfl, ?_⟩
  unfold leaveUnit Hci.asked
  cases s.hci.outstanding with
  | none => exact .rfl
  | some o => cases ho : o.request <;> simp [ho]

theorem eventMoves_takeOvercurrent (i : Site) (s : State) : EventMoves s (takeOvercurrent i s) := by
  unfold takeOvercurrent
  split
  · exact .refl
  next h =>
    have tripped : EventMoves s (cancelDrop i (tripSite i s)) :=
      (contactKept_tripSite h).event.trans (contactKept_cancelDrop i _).event
    refine EventMoves.settled (eventMoves_ite ?_ tripped)
    exact (tripped.trans (contactKept_recordFailure i .alarm 0 none _).event).trans (contactKept_leaveUnit i _).event

/-! ## The ends of the running times -/

theorem contactKept_fillError (k : RequestKind) (s : State) : ContactKept s (fillError k s) := by
  unfold fillError
  split
  · exact contactKept_of_eq
  · exact contactKept_sites (fun _ => .refl _) rfl rfl rfl

theorem eventMoves_passDeadline (s : State) : EventMoves s (passDeadline s) := by
  unfold passDeadline
  split
  · exact .refl
  next o _ =>
    have filled : EventMoves s (fillError o.request.kind (elapse o.deadline s)) :=
      (contactKept_elapse o.deadline s).event.trans (contactKept_fillError _ _).event
    exact EventMoves.settled (((filled.tail (.idle _)).tail (.pump _)).tail (.endRun _ _ (by simp) (by simp)))

theorem contactKept_busyFailure (i : Site) (kind : FailKind) (v : Nat) (t : TimedStep) (s : State) :
    ContactKept s (busyFailure i kind v t s) := by
  rw [busyFailure_eq]
  exact contactKept_updSite i (fun x => .of_spares (spares_busyFailRec _ _ _ _ x)) s

theorem eventMoves_expireSite (i : Site) (t : TimedStep) (s : State) : EventMoves s (expireSite i t s) := by
  refine EventMoves.after (contactKept_addPendingDrop i _).event ?_
  exact (contactKept_stopTimerAt i t.limits.high s).event.trans (contactKept_busyFailure i .slow t.limits.high t _).event

theorem eventMoves_passHighLimit (i : Site) (s : State) : EventMoves s (passHighLimit i s) := by
  unfold passHighLimit
  split
  · exact .refl
  · exact eventMoves_ite (EventMoves.settled ((contactKept_elapse _ s).event.trans (eventMoves_expireSite i _ _))) .refl

/-- EXIT entered from another stage than that of the start sequence. -/
theorem eventMoves_enterExit {s : State} (h : s.run.stage ≠ .contact) : EventMoves s (enterExit s) :=
  (contactKept_run _ (hst := fun hc => absurd hc h)).event

theorem eventMoves_passDwell (s : State) : EventMoves s (passDwell s) := by
  unfold passDwell
  split
  next h =>
    simp only [runningAt, Bool.and_eq_true, beq_iff_eq] at h
    have stopped : EventMoves s { elapse s.run.dwellRem s with run := { (elapse s.run.dwellRem s).run with dwellRem := 0 } } :=
      EventMoves.after (contactKept_run _).event (contactKept_elapse _ s).event
    refine EventMoves.settled (stopped.trans (eventMoves_enterExit ?_))
    show s.run.stage ≠ .contact
    rw [h.2]
    simp
  · exact .refl

theorem eventMoves_decideSync {s : State} (h : s.run.stage ≠ .contact) : EventMoves s (decideSync s) := by
  unfold decideSync
  split
  · exact .refl
  · split
    · exact eventMoves_enterExit h
    · exact .single (.endRun s _ (by simp) (by simp))

theorem eventMoves_passSyncTimeout (s : State) : EventMoves s (passSyncTimeout s) := by
  unfold passSyncTimeout
  split
  · exact .refl
  next r _ =>
    split
    next h =>
      simp only [countingAt, Bool.and_eq_true, beq_iff_eq] at h
      have stopped : EventMoves s { elapse r s with run := { (elapse r s).run with syncRem := some 0 } } :=
        EventMoves.after (contactKept_run _).event (contactKept_elapse r s).event
      have formed := linkSideOnly_syncTimedOut { elapse r s with run := { (elapse r s).run with syncRem := some 0 } }
      refine EventMoves.settled ((stopped.trans formed.contactKept.event).trans (eventMoves_decideSync ?_))
      obtain ⟨_, _, _, _, hf⟩ := formed
      rw [hf]
      show s.run.stage ≠ .contact
      rw [h.2]
      simp
    · exact .refl

theorem eventMoves_passSupplyWait (s : State) : EventMoves s (passSupplyWait s) := by
  unfold passSupplyWait
  split
  · exact .refl
  next r _ =>
    have stopped : EventMoves s { elapse r s with run := { (elapse r s).run with supplyRem := some 0 } } :=
      EventMoves.after (contactKept_run _).event (contactKept_elapse r s).event
    exact eventMoves_ite (EventMoves.settled ((stopped.trans (linkSideOnly_giveUp _).contactKept.event).tail
      (.endRun _ _ (by simp) (by simp)))) .refl

theorem eventMoves_passResumeGuard (s : State) : EventMoves s (passResumeGuard s) := by
  have guard : EventMoves s { elapse s.run.guardRem s with run := { (elapse s.run.guardRem s).run with guardRem := 0 } } :=
    EventMoves.after (contactKept_run _).event (contactKept_elapse _ s).event
  exact eventMoves_ite .refl (eventMoves_ite (EventMoves.settled (guard.trans (eventMoves_pauseTakesEffect _))) guard)

theorem eventMoves_passRollWindow (s : State) : EventMoves s (passRollWindow s) := by
  unfold passRollWindow
  split
  · exact .refl
  · exact EventMoves.settled (EventMoves.after (ContactKept.event contactKept_of_eq) (contactKept_elapse _ s).event)

/-! ## The link and the lines -/

theorem eventMoves_carried (x : Station) (f : Option Frame) (s : State) : EventMoves s (carried x f s) := by
  rcases carried_cases x f s with hc | ⟨u, hm, hc⟩
  · rw [hc]
  · rw [hc]; exact EventMoves.settled hm.event

theorem eventMoves_alertRises (s : State) : EventMoves s (alertRises s) := by
  have risen : EventMoves s { s with alert := { s.alert with level := true } } := (ContactKept.event contactKept_of_eq)
  refine eventMoves_ite .refl (eventMoves_ite risen ?_)
  unfold riseEffect
  split
  · exact EventMoves.settled (risen.tail (.endRun _ _ (by simp) (by simp)))
  · exact (ContactKept.event contactKept_of_eq)

/-- The commands that clear or set sites or bins by themselves: the resets, RUN, CLEAR-RESULTS, SITE-RESTORE, CONTACT and RAIL_FAIL. -/
def setsSites : Instr → Bool
  | .powerOnReset _ _ | .backplaneReset _ _ | .cardReset _ | .run | .clearResults | .siteRestore | .contact _ | .railFail => true
  | _ => false

/-- Every other command is a chain of event moves. -/
theorem eventMoves_exec {c : Instr} {s t : State} (hc : setsSites c = false) (he : exec c s = .next t) : EventMoves s t := by
  cases c with
  | powerOnReset | backplaneReset | cardReset | run | clearResults | siteRestore | contact | railFail => cases hc
  | windowWrite offset v => exact (onlyCwc_windowWrite he).contactKept.event
  | postFirstByte | attentionFirstByte | attentionAcknowledge =>
    obtain rfl := Host.Outcome.next.inj he
    exact (onlyCwc_withCwc _ s).contactKept.event
  | post v => obtain rfl := Host.Outcome.next.inj he; exact (onlyCwc_takePost _ s).contactKept.event
  | setProfile | defineStep | deleteSteps | setStopOption =>
    obtain rfl := Host.Outcome.next.inj he
    exact eventMoves_serve fun b x => eventMoves_guarded fun _ => eventMoves_respond_of_eq b .ok rfl rfl rfl
  | readStatus | readResult | readPeers =>
    obtain rfl := Host.Outcome.next.inj he
    exact eventMoves_serve fun b x => (onlyCwc_respondWith b .ok _ x).contactKept.event
  | readSite | readBadBlocks =>
    obtain rfl := Host.Outcome.next.inj he
    refine eventMoves_serve fun b x => ?_
    first | unfold readSiteOwner | unfold readBadBlocksOwner
    split
    · exact (contactKept_respond _ _ _).event
    · exact (onlyCwc_respondWith _ _ _ _).contactKept.event
  | readFailLog => obtain rfl := Host.Outcome.next.inj he; exact eventMoves_serve eventMoves_readFailLog
  | rewindLog =>
    obtain rfl := Host.Outcome.next.inj he
    exact eventMoves_serve fun b x => eventMoves_guarded fun _ =>
      (contactKept_rewindLogs b.opMask x).event.trans (contactKept_respond b .ok _).event
  | snapshot =>
    obtain rfl := Host.Outcome.next.inj he
    refine eventMoves_serve fun b x => ?_
    unfold snapshotOwner
    split
    · exact (contactKept_respond _ _ _).event
    · exact eventMoves_respond_of_eq b .ok rfl rfl rfl
  | readSnapshot =>
    obtain rfl := Host.Outcome.next.inj he
    refine eventMoves_serve fun b x => ?_
    unfold readSnapshotOwner
    split
    · exact EventMoves.after (onlyCwc_respondWith _ _ _ _).contactKept.event (ContactKept.event contactKept_of_eq)
    · exact (onlyCwc_respondWith _ _ _ _).contactKept.event
  | pause =>
    obtain rfl := Host.Outcome.next.inj he
    exact eventMoves_serve fun b x => eventMoves_guarded fun _ => eventMoves_acceptPause b x
  | resume => obtain rfl := Host.Outcome.next.inj he; exact eventMoves_serve eventMoves_resumeOwner
  | abort => obtain rfl := Host.Outcome.next.inj he; exact eventMoves_serve eventMoves_abortOwner
  | raiseAlert | clearAlert =>
    obtain rfl := Host.Outcome.next.inj he
    exact eventMoves_serve fun b x => eventMoves_respond_of_eq b .ok rfl rfl rfl
  | accept => obtain rfl := Host.Outcome.next.inj he; exact eventMoves_takeAccept s
  | result es => obtain rfl := Host.Outcome.next.inj he; exact eventMoves_takeResult es s
  | ready mask n =>
    obtain rfl := Host.Outcome.next.inj he
    exact EventMoves.settled ((contactKept_elapse n s).event.trans (eventMoves_foldl (fun s i => eventMoves_readySite i s) _ _))
  | alarmSiteOvercurrent i => obtain rfl := Host.Outcome.next.inj he; exact eventMoves_takeOvercurrent i s
  | alarmHeadFault =>
    obtain rfl := Host.Outcome.next.inj he
    exact EventMoves.settled (EventMoves.after (ContactKept.event contactKept_of_eq) (.single (.endRun s .headFault (by simp) (by simp))))
  | replyDeadline => obtain rfl := Host.Outcome.next.inj he; exact eventMoves_passDeadline s
  | highLimitExpiry i => obtain rfl := Host.Outcome.next.inj he; exact eventMoves_passHighLimit i s
  | dwellExpiry => obtain rfl := Host.Outcome.next.inj he; exact eventMoves_passDwell s
  | syncTimeout => obtain rfl := Host.Outcome.next.inj he; exact eventMoves_passSyncTimeout s
  | supplyWaitExpiry => obtain rfl := Host.Outcome.next.inj he; exact eventMoves_passSupplyWait s
  | resumeGuardExpiry => obtain rfl := Host.Outcome.next.inj he; exact eventMoves_passResumeGuard s
  | rollWindowExpiry => obtain rfl := Host.Outcome.next.inj he; exact eventMoves_passRollWindow s
  | frameStart => obtain rfl := Host.Outcome.next.inj he; exact (linkSideOnly_startFrame s).contactKept.event
  | arbitrationLost =>
    obtain rfl := Host.Outcome.next.inj he
    exact EventMoves.settled (linkSideOnly_loseAttempt s).contactKept.event
  | frameVoid => obtain rfl := Host.Outcome.next.inj he; exact EventMoves.settled (linkMoves_voidAttempt s).event
  | release | withdraw | leave | state | roll | mark | wait | claim =>
    obtain rfl := Host.Outcome.next.inj he
    exact eventMoves_carried _ _ s
  | alertRise => obtain rfl := Host.Outcome.next.inj he; exact eventMoves_alertRises s
  | alertFall => obtain rfl := Host.Outcome.next.inj he; exact eventMoves_ite .refl (ContactKept.event contactKept_of_eq)
  | railFailRelease => obtain rfl := Host.Outcome.next.inj he; exact (ContactKept.event contactKept_of_eq)

end Sys2Proof.Machine
end

section
/-! ACTIVE sites stay at bin 0, and a bin that is set stands. -/

namespace Sys2Proof.Machine

/-! ## The site half of the invariant -/

/-- ACTIVE sites have bin 0, and outside a run no site is ACTIVE. -/
def SitesUnbinned (s : State) : Prop :=
  (∀ i : Site, s.sites[i].state = .active → s.sites[i].bin = 0) ∧ (s.run.seq = .idle → ∀ i : Site, s.sites[i].state ≠ .active)

theorem ActiveUnbinned.sites {s : State} (h : ActiveUnbinned s) : SitesUnbinned s := ⟨h.1, h.2.1⟩

/-- While no CONTACT reply can come, the site half is the whole invariant. -/
theorem SitesUnbinned.active {s : State} (h : SitesUnbinned s) (hn : ¬ ContactPending s.hci) : ActiveUnbinned s :=
  ⟨h.1, h.2, fun hc => absurd hc hn⟩

/-- A run becomes IDLE by an elementary move only as it is closed. -/
theorem Move.seq {s t : State} (h : Move s t) (ht : t.run.seq = .idle) : s.run.seq = .idle ∨ ∀ i : Site, t.sites[i].state ≠ .active := by
  cases h with
  | link | uag | timed | hold | marks => exact .inl ht
  | run x hx => exact .inl (hx ht)
  | finishRun r => rw [(onlyCwc_finishRun r s).eq] at ht; exact .inl ht
  | finishAbort r => rw [(onlyCwc_finishAbort r s).eq] at ht; exact .inl ht
  | finishPause r => rw [(onlyCwc_finishPause r s).eq] at ht; exact .inl ht
  | writeBytes a bs => rw [(onlyCwc_writeBytes a bs s).eq] at ht; exact .inl ht
  | send _ h => rw [(hciDue_leaves h).2.2.2] at ht; exact .inl ht
  | close cause => exact .inr fun i => by rw [closeRun_site]; exact doneSite_state_ne_active _ _ _

/-- A site that is ACTIVE after an elementary move was so before, with its bin. -/
theorem Move.active {s t : State} (h : Move s t) (i : Site) (ht : t.sites[i].state = .active) :
    s.sites[i].state = .active ∧ t.sites[i].bin = s.sites[i].bin := by
  obtain ⟨_, _, _, h⟩ | ⟨_, h⟩ := h.site i
  · rw [h] at ht ⊢; exact ⟨ht, rfl⟩
  · rw [h] at ht; exact absurd ht (doneSite_state_ne_active _ _ _)

theorem Moves.sitesUnbinned {s t : State} (h : Moves s t) (hs : SitesUnbinned s) : SitesUnbinned t := by
  refine h.keeps (fun u v hm hu => ⟨fun i hi => ?_, fun hq i hi => ?_⟩) hs
  · obtain ⟨ha, hb⟩ := hm.active i hi
    exact hb.trans (hu.1 i ha)
  · obtain hq | hn := hm.seq hq
    · exact hu.2 hq i (hm.active i hi).1
    · exact hn i hi

/-- Own actions never ask for a CONTACT. -/
theorem Moves.noContact {s t : State} (h : Moves s t) (hs : ¬ ContactPending s.hci) : ¬ ContactPending t.hci := by
  refine h.keeps (P := fun u => ¬ ContactPending u.hci) (fun u v hm hu => ?_) hs
  cases hm with
  | link | run | uag | timed | marks | close => exact hu
  | hold r hc _ =>
    rw [contactPending_iff] at hu ⊢
    rintro (h | h)
    · exact hu (.inl h)
    · exact hc (Option.some.inj h)
  | finishRun r => rw [(onlyCwc_finishRun r u).eq]; exact hu
  | finishAbort r => rw [(onlyCwc_finishAbort r u).eq]; exact hu
  | finishPause r => rw [(onlyCwc_finishPause r u).eq]; exact hu
  | writeBytes a bs => rw [(onlyCwc_writeBytes a bs u).eq]; exact hu
  | send _ h =>
    rw [contactPending_iff] at hu ⊢
    obtain ⟨_, ⟨_, rfl⟩ | ⟨r, _, hr, ha, hn⟩⟩ := hciDue_cases h
    · rintro (h | h)
      · cases h
      · exact hu (.inr h)
    · have hcheck : r ≠ .contactCheck := fun e => hu (.inr (e ▸ hr))
      have sent : ∀ x : State, x.hci.held = none →
          ¬ ((sendRequest r x).hci.asked = some .contactCheck ∨ (sendRequest r x).hci.held = some .contactCheck) := by
        rintro x hx (h | h)
        · exact hcheck (Option.some.inj h)
        · exact absurd (hx.symm.trans h) (by simp)
      by_cases hab : r = .abandon
      · rw [ha hab]; exact sent _ rfl
      · rw [hn hab]; exact sent _ rfl

/-! ## The contact half -/

/-- What the invariant says of a card whose CONTACT reply can still come. -/
structure ContactWaits (s : State) : Prop where
  run : s.run.seq ≠ .idle
  stage : s.run.ending = none → s.run.stage = .contact
  ended : s.run.ending ≠ none → s.hci.held = some .abandon ∧ s.run.teardown = .abandon
  once : s.hci.held = some .contactCheck → s.hci.asked ≠ some .contactCheck
  sites : ∀ i : Site, s.sites[i].state ≠ .active ∧ (s.sites[i].state ≠ .tripped → s.sites[i].bin = 0)

theorem activeUnbinned_iff (s : State) : ActiveUnbinned s ↔ SitesUnbinned s ∧ (ContactPending s.hci → ContactWaits s) := by
  have once : (∀ o, s.hci.outstanding = some o → o.request ≠ .contactCheck) ↔ s.hci.asked ≠ some .contactCheck := by
    unfold Hci.asked
    cases s.hci.outstanding <;> simp
  constructor
  · rintro ⟨hb, hi, hc⟩
    refine ⟨⟨hb, hi⟩, fun hp => ?_⟩
    obtain ⟨hr, hst, he, ho, hs⟩ := hc hp
    exact ⟨hr, hst, he, fun h => once.mp (ho h), hs⟩
  · rintro ⟨⟨hb, hi⟩, hc⟩
    refine ⟨hb, hi, fun hp => ?_⟩
    obtain ⟨hr, hst, he, ho, hs⟩ := hc hp
    exact ⟨hr, hst, he, fun h => once.mpr (ho h), hs⟩

theorem ContactKept.pending {s t : State} (h : ContactKept s t) : ContactPending t.hci ↔ ContactPending s.hci := by
  rw [contactPending_iff, contactPending_iff, h.asked, h.held]

theorem ContactKept.unbinned {s t : State} (h : ContactKept s t) (hs : ActiveUnbinned s) : ActiveUnbinned t := by
  rw [activeUnbinned_iff] at hs ⊢
  obtain ⟨⟨hbin, hidle⟩, hwait⟩ := hs
  have active : ∀ i : Site, t.sites[i].state = .active → s.sites[i].state = .active ∧ t.sites[i].bin = s.sites[i].bin := by
    intro i hi
    obtain ⟨ht, _⟩ | ⟨_, hr⟩ | ⟨hst, hb⟩ := h.site i
    · exact absurd (ht.symm.trans hi) (by simp)
    · exact absurd (hr.symm.trans hi) (by simp)
    · exact ⟨hst.symm.trans hi, hb⟩
  refine ⟨⟨fun i hi => ?_, fun hq i hi => hidle (h.seq hq) i (active i hi).1⟩, fun hp => ?_⟩
  · obtain ⟨ha, hb⟩ := active i hi
    exact hb.trans (hbin i ha)
  · obtain ⟨hrun, hstage, hended, honce, hsites⟩ := hwait (h.pending.mp hp)
    refine ⟨fun hq => hrun (h.seq hq), fun he => h.stage (hstage (h.ending ▸ he)), fun he => ?_, fun hh ha => ?_, fun i => ?_⟩
    · rw [h.held, h.teardown]
      exact hended (h.ending ▸ he)
    · exact honce (h.held ▸ hh) (h.asked.mp ha)
    · refine ⟨fun hi => (hsites i).1 (active i hi).1, fun hn => ?_⟩
      obtain ⟨ht, _⟩ | ⟨ha, _⟩ | ⟨hst, hb⟩ := h.site i
      · exact absurd ht hn
      · exact absurd ha (hsites i).1
      · exact hb.trans ((hsites i).2 (hst ▸ hn))

theorem ActiveUnbinned.waits {s : State} (h : ActiveUnbinned s) (hp : ContactPending s.hci) : ContactWaits s :=
  ((activeUnbinned_iff s).mp h).2 hp

/-- A chain of own moves keeps the invariant once no CONTACT can come. -/
theorem Moves.unbinned {s t : State} (h : Moves s t) (hs : SitesUnbinned s) (hn : ¬ ContactPending s.hci) : ActiveUnbinned t :=
  (h.sitesUnbinned hs).active (h.noContact hn)

theorem unbinned_hciIdle {s : State} (h : ActiveUnbinned s) : ActiveUnbinned (hciIdle s) := by
  refine (activeUnbinned_iff _).mpr ⟨h.sites, fun hp => ?_⟩
  have held : s.hci.held = some .contactCheck := by
    rcases (contactPending_iff _).mp hp with ha | hh
    · cases ha
    · exact hh
  obtain ⟨hrun, hstage, hended, _, hsites⟩ := h.waits ((contactPending_iff _).mpr (.inr held))
  exact ⟨hrun, hstage, hended, fun _ ha => (by cases ha), hsites⟩

/-- Sending what is due: a held CONTACT-CHECK goes out, and any other request ends the waiting for none. -/
theorem unbinned_hciDue {s t : State} (hd : hciDue s = some t) (h : ActiveUnbinned s) : ActiveUnbinned t := by
  have moved : SitesUnbinned t := Moves.sitesUnbinned (.single (.send s t hd)) h.sites
  by_cases hp : ContactPending s.hci
  · refine (activeUnbinned_iff t).mpr ⟨moved, fun hpt => ?_⟩
    obtain ⟨hrun, hstage, hended, _, hsites⟩ := h.waits hp
    obtain ⟨_, ⟨_, rfl⟩ | ⟨r, _, hr, ha, hn⟩⟩ := hciDue_cases hd
    · exact ⟨hrun, hstage, hended, fun _ ha => (by cases ha), hsites⟩
    · by_cases hab : r = .abandon
      · rw [ha hab, contactPending_iff] at hpt
        rcases hpt with hpt | hpt
        · rw [hab] at hpt; cases hpt
        · cases hpt
      · rw [hn hab]
        refine ⟨hrun, hstage, fun he => ?_, ?_, hsites⟩
        · exact absurd (Option.some.inj (hr.symm.trans (hended he).1)) hab
        · intro hh
          cases hh
  · exact moved.active (Moves.noContact (.single (.send s t hd)) hp)

theorem unbinned_hciPump {s : State} (h : ActiveUnbinned s) : ActiveUnbinned (hciPump s) := by
  unfold hciPump
  cases hd : hciDue s with
  | none => exact h
  | some t => exact unbinned_hciDue hd h

/-- While a CONTACT reply can come, the sequencer has nothing to do: it waits for the reply, or for its ABANDON. -/
theorem sequencerDue_contact {s : State} (h : ContactWaits s) : sequencerDue s = none := by
  have waits : ∀ cause, s.run.ending = some cause → sequencerDue s = none := fun cause he => by
    obtain ⟨hheld, ht⟩ := h.ended (by simp [he])
    exact teardown_waits h.run he ht (by simp [abandonBusy, hheld])
  cases he : s.run.ending with
  | some cause => exact waits cause he
  | none =>
    have hst := h.stage he
    unfold sequencerDue
    cases hq : s.run.seq with
    | idle => exact absurd hq h.run
    | running => simp only [he, runningDue, hst]
    | pausing => simp only [he, pausingDue, hst, Option.map_none]
    | paused => simp only [he]

theorem unbinned_nextAction {s t : State} (hn : nextAction s = some t) (h : ActiveUnbinned s) : ActiveUnbinned t := by
  rcases nextAction_cases hn with hd | ⟨_, hu⟩ | ⟨_, _, hq⟩
  · exact unbinned_hciDue hd h
  · unfold unitDue at hu
    split at hu
    · split at hu
      · cases hu
        exact ContactKept.unbinned (contactKept_run _) h
      · cases hu
    · cases hu
  · by_cases hp : ContactPending s.hci
    · rw [sequencerDue_contact (h.waits hp)] at hq
      cases hq
    · exact (moves_sequencerDue hq).unbinned h.sites hp

theorem unbinned_settle {s : State} (h : ActiveUnbinned s) : ActiveUnbinned (settle s) :=
  settle_keeps (fun _ _ => unbinned_nextAction) s h

/-- An ABANDON handed over takes the place of a held CONTACT-CHECK, or waits behind the one that is outstanding (R10, R15). -/
theorem unbinned_handAbandon {s : State} (hs : SitesUnbinned s) (he : s.run.ending ≠ none) (ht : s.run.teardown = .abandon)
    (hw : ContactPending s.hci → s.run.seq ≠ .idle ∧ (s.hci.held = some .contactCheck → s.hci.asked ≠ some .contactCheck)
      ∧ ∀ i : Site, s.sites[i].state ≠ .active ∧ (s.sites[i].state ≠ .tripped → s.sites[i].bin = 0)) :
    ActiveUnbinned (handAbandon s) := by
  by_cases hp : ContactPending s.hci
  · obtain ⟨hrun, honce, hsites⟩ := hw hp
    refine unbinned_hciPump ((activeUnbinned_iff _).mpr ⟨?_, fun hpt => ?_⟩)
    · split <;> exact hs
    · split
      · exact ⟨hrun, fun h => absurd h he, fun _ => ⟨rfl, ht⟩, fun hh => (by cases hh), hsites⟩
      · exact ⟨hrun, fun h => absurd h he, fun _ => ⟨rfl, ht⟩, fun hh => (by cases hh), hsites⟩
  · exact (moves_handAbandon s).unbinned hs hp

theorem unbinned_endRun {s : State} {cause : EndCause} (hc : cause ≠ .complete) (hn : cause ≠ .noSites) (h : ActiveUnbinned s) :
    ActiveUnbinned (endRun cause s) := by
  by_cases hq : s.run.seq = .idle
  · rw [endRun_idle cause hq]; exact h
  · cases he : s.run.ending with
    | some c => rw [endRun_ending cause he]; exact h
    | none =>
      rw [endRun_taken cause hq he, if_neg (by simp [hc, hn])]
      refine unbinned_handAbandon h.sites (by simp [endingState]) rfl fun hp => ?_
      obtain ⟨hrun, _, _, honce, hsites⟩ := h.waits hp
      exact ⟨hrun, honce, hsites⟩

theorem EventMove.unbinned {s t : State} (h : EventMove s t) (hs : ActiveUnbinned s) : ActiveUnbinned t := by
  cases h with
  | kept _ h => exact h.unbinned hs
  | endRun cause hc hn => exact unbinned_endRun hc hn hs
  | idle => exact unbinned_hciIdle hs
  | pump => exact unbinned_hciPump hs
  | settle => exact unbinned_settle hs

theorem EventMoves.unbinned {s t : State} (h : EventMoves s t) (hs : ActiveUnbinned s) : ActiveUnbinned t :=
  h.keeps (fun _ _ m => m.unbinned) hs

/-! ## The commands that set sites -/

/-- Outside a run no CONTACT can come. -/
theorem ActiveUnbinned.noContact {s : State} (h : ActiveUnbinned s) (hq : s.run.seq = .idle) : ¬ ContactPending s.hci :=
  fun hp => (h.waits hp).run hq

theorem unbinned_serve {c : Cmd} {owner : Block → State → State} {s : State} (h : ActiveUnbinned s)
    (ho : ∀ (b : Block) (x : State), ActiveUnbinned x → ActiveUnbinned (owner b x)) : ActiveUnbinned (serve c owner s) := by
  rcases serve_cases c owner s with hs | ⟨b, s0, ht, _, ⟨r, _, hs⟩ | ⟨_, hs⟩⟩
  · rw [hs]; exact h
  · rw [hs]; exact (contactKept_respond b r s0).unbinned ((contactKept_takeBlock ht).unbinned h)
  · rw [hs]; exact ho b s0 ((contactKept_takeBlock ht).unbinned h)

/-- A command that a run in progress refuses keeps the invariant when its effect does outside a run. -/
theorem unbinned_guarded_idle {b : Block} {r : Response} {conds : List (Bool × Response)} {act : State → State} {s : State}
    (h : ActiveUnbinned s) (ha : s.run.seq = .idle → ActiveUnbinned (act s)) :
    ActiveUnbinned (guarded b ((runActive s, r) :: conds) act s) := by
  unfold guarded
  split
  · exact (contactKept_respond _ _ _).unbinned h
  next hg =>
    obtain ⟨hidle, _⟩ := firstRefusal_none hg
    exact ha (by simpa [runActive] using hidle)

theorem unbinned_startRun (b : Block) {s : State} (h : ActiveUnbinned s) (hq : s.run.seq = .idle) : ActiveUnbinned (startRun b s) := by
  have hask : s.hci.asked ≠ some .contactCheck := fun ha => h.noContact hq ((contactPending_iff _).mpr (.inl ha))
  have site : ∀ (x : State) (i : Site), x.sites = s.sites →
      (clearForRun x).sites[i].state ≠ .active ∧ (clearForRun x).sites[i].bin = 0 := fun x i hx => by
    rw [clearForRun_site, hx]
    exact ⟨h.sites.2 hq i, rfl⟩
  refine unbinned_hciPump ((activeUnbinned_iff _).mpr ⟨⟨fun i _ => (site _ i rfl).2, fun hidle => ?_⟩, fun _ => ?_⟩)
  · cases hidle
  · exact ⟨by rintro ⟨⟩, fun _ => rfl, fun he => absurd rfl he, fun _ => hask, fun i => ⟨(site _ i rfl).1, fun _ => (site _ i rfl).2⟩⟩

theorem unbinned_clearAccounts {s : State} (h : ActiveUnbinned s) (hq : s.run.seq = .idle) : ActiveUnbinned (clearAccounts s) := by
  refine SitesUnbinned.active ⟨fun i _ => ?_, fun _ i => ?_⟩ (h.noContact hq)
  · unfold clearAccounts; rw [mapSites_get]
  · unfold clearAccounts; rw [mapSites_get]; exact h.sites.2 hq i

/-- One site after a restore (R7). -/
theorem restoreSites_site (mask : SiteMask) (s : State) (i : Site) : (restoreSites mask s).sites[i] =
    if (inMask mask i && s.sites[i].state == .tripped) = true then { s.sites[i] with state := .vacant } else s.sites[i] := tabulate_get _ _

theorem unbinned_restoreSites (mask : SiteMask) {s : State} (h : ActiveUnbinned s) (hq : s.run.seq = .idle) :
    ActiveUnbinned (restoreSites mask s) := by
  have vacant : ∀ i : Site, (restoreSites mask s).sites[i].state ≠ .active := fun i => by
    rw [restoreSites_site]
    split
    · simp
    · exact h.sites.2 hq i
  exact SitesUnbinned.active ⟨fun i hi => absurd hi (vacant i), fun _ => vacant⟩ (h.noContact hq)

/-- One site after a CONTACT (R3). -/
theorem applyContact_site (mask : SiteMask) (s : State) (i : Site) : (applyContact mask s).sites[i] =
    if s.sites[i].state = .tripped then s.sites[i] else { s.sites[i] with state := if inMask mask i then .active else .vacant } :=
  tabulate_get _ _

theorem unbinned_takeContact (mask : SiteMask) {s : State} (h : ActiveUnbinned s) : ActiveUnbinned (takeContact mask s) := by
  unfold takeContact
  split
  next ha =>
    have hask : s.hci.asked = some .contactCheck := by
      unfold awaits Hci.awaiting at ha
      unfold Hci.asked
      cases ho : s.hci.outstanding with
      | none => simp [ho] at ha
      | some o => cases hr : o.request <;> simp_all [Request.kind, RequestKind.awaits]
    obtain ⟨hrun, _, _, honce, hsites⟩ := h.waits ((contactPending_iff _).mpr (.inl hask))
    have closed : ¬ ContactPending (applyContact mask (hciIdle s)).hci := by
      rw [contactPending_iff]
      rintro (hc | hc)
      · cases hc
      · exact honce hc hask
    have applied : SitesUnbinned (applyContact mask (hciIdle s)) := by
      refine ⟨fun i hi => ?_, fun hq => absurd hq hrun⟩
      rw [applyContact_site] at hi ⊢
      split at hi
      next ht => exact absurd hi (hsites i).1
      next ht => rw [if_neg ht]; exact (hsites i).2 ht
    exact unbinned_settle ((moves_continueStart _).unbinned applied closed)
  · exact (contactKept_addStrays 1 s).unbinned h

/-! ## Resets and RAIL-FAIL -/

/-- After a shortened teardown nothing is awaited, and no CONTACT-CHECK is held (R74). -/
theorem cutShort_noContact {s : State} (h : ActiveUnbinned s) : ¬ ContactPending (cutShort s).hci := by
  rw [contactPending_iff]
  unfold cutShort
  dsimp only
  split
  · rintro (hc | hc) <;> cases hc
  next hsent =>
    rintro (hc | hc)
    · cases hc
    · have hc' : s.hci.held = some .contactCheck := hc
      have waits := h.waits ((contactPending_iff _).mpr (.inr hc'))
      exact hsent (.inr (.inr (.inr (waits.ended fun he => hsent (.inl he)).1)))

theorem cutShort_seq (s : State) : (cutShort s).run.seq = s.run.seq := by
  unfold cutShort
  dsimp only
  split <;> rfl

/-- A shortened teardown leaves a site but for its busy flag. -/
theorem cutShort_site (s : State) (i : Site) : ∃ b, (cutShort s).sites[i] = { s.sites[i] with busy := b } := by
  unfold cutShort
  dsimp only
  split
  · exact ⟨false, abandonEffects_site i s⟩
  · exact ⟨_, rfl⟩

theorem cutShort_sitesUnbinned {s : State} (h : SitesUnbinned s) : SitesUnbinned (cutShort s) := by
  refine ⟨fun i hi => ?_, fun hq i hi => ?_⟩ <;> obtain ⟨b, hb⟩ := cutShort_site s i <;> rw [hb] at hi
  · rw [hb]; exact h.1 i hi
  · rw [cutShort_seq] at hq; exact h.2 hq i hi

theorem unbinned_haltCard {s : State} (h : ActiveUnbinned s) : ActiveUnbinned (haltCard s) := by
  have halted : ActiveUnbinned (haltBlocks s) := ContactKept.unbinned contactKept_of_eq h
  unfold haltCard
  dsimp only
  split
  · exact (moves_finishRunEnd _ _).unbinned (cutShort_sitesUnbinned halted.sites) (cutShort_noContact halted)
  · exact halted

theorem unbinned_powerOn (straps : Straps) (lines : Lines) : ActiveUnbinned (State.powerOn straps lines) := by
  have vacant : ∀ i : Site, (State.powerOn straps lines).sites[i].state ≠ .active := fun i => by
    rw [powerOn_site]; simp [SiteRec.reset]
  refine SitesUnbinned.active ⟨fun i hi => absurd hi (vacant i), fun _ => vacant⟩ ?_
  rw [contactPending_iff]
  rintro (hc | hc) <;> cases hc

theorem unbinned_resetCard (straps : Straps) (lines : Lines) (s : State) : ActiveUnbinned (resetCard straps lines s) := by
  have fresh : ActiveUnbinned (((State.powerOn straps lines).withPending s.pending).withUag (unloadUag s).uag) :=
    ContactKept.unbinned contactKept_of_eq (unbinned_powerOn straps lines)
  unfold resetCard
  dsimp only
  split
  · exact unbinned_haltCard fresh
  · exact fresh

theorem onlyCwc_finishBlocks (cause : EndCause) (s : State) : OnlyCwc s (finishBlocks cause s) := by
  unfold finishBlocks
  split <;> exact ((onlyCwc_finishRun _ s).trans (onlyCwc_finishAbort _ _)).trans (onlyCwc_finishPause _ _)

theorem onlyCwc_completeAll (cause : EndCause) (s : State) : OnlyCwc s (completeAll cause s) :=
  (((onlyCwc_finishBlocks cause s).trans (onlyCwc_respondAll _ _ _)).trans (onlyCwc_respondAll _ _ _)).trans (onlyCwc_withCwc _ _)

/-- One site after a CARD-RESET (R2). -/
theorem resetBlocks_site (straps : Straps) (s : State) (i : Site) : (resetBlocks straps s).sites[i] = resetSite s.sites[i] :=
  tabulate_get _ _

theorem unbinned_cardReset (straps : Straps) (b : Block) (s : State) : ActiveUnbinned (cardResetOwner straps b s) := by
  have reset : ∀ x : State, ActiveUnbinned (resetBlocks straps x) := fun x => by
    have vacant : ∀ i : Site, (resetBlocks straps x).sites[i].state ≠ .active := fun i => by
      rw [resetBlocks_site]
      unfold resetSite
      dsimp only
      split <;> simp
    refine SitesUnbinned.active ⟨fun i hi => absurd hi (vacant i), fun _ => vacant⟩ ?_
    rw [contactPending_iff]
    rintro (hc | hc) <;> cases hc
  exact ((onlyCwc_completeAll _ _).trans (onlyCwc_respond _ _ _)).contactKept.unbinned (reset _)

theorem unbinned_exec {c : Instr} {s t : State} (h : ActiveUnbinned s) (he : exec c s = .next t) : ActiveUnbinned t := by
  by_cases hc : setsSites c = true
  · cases c with
    | powerOnReset straps lines => obtain rfl := Host.Outcome.next.inj he; exact unbinned_resetCard straps lines s
    | backplaneReset straps lines => obtain rfl := Host.Outcome.next.inj he; exact unbinned_resetCard straps lines s
    | cardReset straps => obtain rfl := Host.Outcome.next.inj he; exact unbinned_serve h fun b x _ => unbinned_cardReset straps b x
    | run =>
      obtain rfl := Host.Outcome.next.inj he
      exact unbinned_serve h fun b x hx => unbinned_guarded_idle hx fun hq => unbinned_startRun b hx hq
    | clearResults =>
      obtain rfl := Host.Outcome.next.inj he
      exact unbinned_serve h fun b x hx => unbinned_guarded_idle hx fun hq =>
        (contactKept_respond _ _ _).unbinned (unbinned_clearAccounts hx hq)
    | siteRestore =>
      obtain rfl := Host.Outcome.next.inj he
      exact unbinned_serve h fun b x hx => unbinned_guarded_idle hx fun hq =>
        (contactKept_respond _ _ _).unbinned (unbinned_restoreSites b.opMask hx hq)
    | contact mask => obtain rfl := Host.Outcome.next.inj he; exact unbinned_takeContact mask h
    | railFail =>
      obtain rfl := Host.Outcome.next.inj he
      have fallen : ActiveUnbinned { s with alert := { s.alert with railFail := true } } := ContactKept.unbinned contactKept_of_eq h
      unfold railFails
      dsimp only
      split
      · exact fallen
      · exact unbinned_haltCard fallen
    | _ => cases hc
  · exact (eventMoves_exec (by simpa using hc) he).unbinned h

/-- Settles O58: every command keeps the ACTIVE sites at bin 0 and the contact exchange in the start sequence, and so does a tick. -/
theorem activeSitesStayUnbinned : Obligations.ActiveSitesStayUnbinned := by
  intro s t h hst
  unfold step at hst
  split at hst
  · obtain rfl := Host.Outcome.next.inj hst
    exact (contactKept_elapse 1 s).unbinned h
  next c rest _ => exact unbinned_exec (s := s.withPending rest) (ContactKept.unbinned contactKept_of_eq h) hst

/-! ## Bins -/

/-- A site that is not ACTIVE and has a bin keeps both through a part of an event. -/
theorem EventMove.bin {s t : State} (h : EventMove s t) {i : Site} {b : Nat} (hb : b ≠ 0)
    (hs : s.sites[i].state ≠ .active ∧ s.sites[i].bin = b) : t.sites[i].state ≠ .active ∧ t.sites[i].bin = b := by
  obtain ⟨hst, hbin⟩ := hs
  have leaves : ∀ {u : State}, Leaves s u → u.sites[i].state ≠ .active ∧ u.sites[i].bin = b := fun hl => by
    obtain ⟨hu, hv⟩ := hl.site i hst
    exact ⟨hu ▸ hst, hv.trans hbin⟩
  cases h with
  | kept _ h =>
    obtain ⟨ht, hk⟩ | ⟨ha, _⟩ | ⟨hsame, hk⟩ := h.site i
    · exact ⟨by rw [ht]; simp, (hk (hbin ▸ hb)).trans hbin⟩
    · exact absurd ha hst
    · exact ⟨hsame ▸ hst, hk.trans hbin⟩
  | endRun cause => exact leaves (leaves_endRun cause s)
  | idle => exact leaves (leaves_hciIdle s)
  | pump => exact leaves (leaves_hciPump s)
  | settle => exact leaves (leaves_settle s)

theorem EventMoves.bin {s t : State} (h : EventMoves s t) {i : Site} (hs : s.sites[i].state ≠ .active) (hb : s.sites[i].bin ≠ 0) :
    t.sites[i].bin = s.sites[i].bin :=
  (h.keeps (P := fun u => u.sites[i].state ≠ .active ∧ u.sites[i].bin = s.sites[i].bin) (fun _ _ hm => hm.bin hb) ⟨hs, rfl⟩).2

/-- A contact leaves every bin, and so do the own actions of the start sequence that a set bin meets (R3, R8). -/
theorem bin_takeContact (mask : SiteMask) {s : State} {i : Site} (hb : s.sites[i].bin ≠ 0) :
    (takeContact mask s).sites[i].bin = s.sites[i].bin := by
  unfold takeContact
  split
  · have applied : (applyContact mask (hciIdle s)).sites[i].bin = s.sites[i].bin := by
      rw [applyContact_site]
      split <;> rfl
    have moved : Moves (applyContact mask (hciIdle s)) (settle (continueStart (applyContact mask (hciIdle s)))) :=
      (moves_continueStart _).trans (moves_settle _)
    exact (moved.bin i (applied ▸ hb)).trans applied
  · rfl

/-- A restore leaves every bin (R7). -/
theorem bin_siteRestore (b : Block) (s : State) (i : Site) : (siteRestoreOwner b s).sites[i].bin = s.sites[i].bin := by
  unfold siteRestoreOwner guarded
  split
  · rw [respond_sites]
  · rw [respond_sites, restoreSites_site]
    split <;> rfl

/-- Serving leaves a bin that its owner leaves. -/
theorem bin_serve {c : Cmd} {owner : Block → State → State} {s : State} {i : Site}
    (ho : ∀ b x, (owner b x).sites[i].bin = x.sites[i].bin) : (serve c owner s).sites[i].bin = s.sites[i].bin := by
  have taken : ∀ {b s0}, takeBlock s = some (b, s0) → s0.sites = s.sites := fun ht => by rw [takeBlock_eq ht]
  rcases serve_cases c owner s with hs | ⟨b, s0, ht, _, ⟨r, _, hs⟩ | ⟨_, hs⟩⟩
  · rw [hs]
  · rw [hs, respond_sites, taken ht]
  · rw [hs, ho, taken ht]

/-- A halt leaves a bin that is set. -/
theorem bin_haltCard {s : State} {i : Site} (hb : s.sites[i].bin ≠ 0) : (haltCard s).sites[i].bin = s.sites[i].bin := by
  unfold haltCard
  dsimp only
  split
  · have cut : (cutShort (haltBlocks s)).sites[i].bin = s.sites[i].bin := by
      obtain ⟨b, h⟩ := cutShort_site (haltBlocks s) i
      rw [h]
      rfl
    exact ((moves_finishRunEnd _ _).bin i (cut ▸ hb)).trans cut
  · rfl

/-- Settles O60: the commands that set no sites by themselves are chains that leave a set bin; CONTACT, SITE-RESTORE and RAIL_FAIL leave it too. -/
theorem binsStand : Obligations.BinsStand := by
  intro c s t i hact hreset hpower hrun hclear he hb
  by_cases hc : setsSites c = true
  · cases c with
    | powerOnReset straps lines => exact absurd rfl (hpower straps lines).1
    | backplaneReset straps lines => exact absurd rfl (hpower straps lines).2
    | cardReset straps => exact absurd rfl (hreset straps)
    | run => exact absurd rfl hrun
    | clearResults => exact absurd rfl hclear
    | siteRestore => obtain rfl := Host.Outcome.next.inj he; exact bin_serve fun b x => bin_siteRestore b x i
    | contact mask => obtain rfl := Host.Outcome.next.inj he; exact bin_takeContact mask hb
    | railFail =>
      obtain rfl := Host.Outcome.next.inj he
      unfold railFails
      dsimp only
      split
      · rfl
      · exact bin_haltCard hb
    | _ => cases hc
  · exact (eventMoves_exec (by simpa using hc) he).bin (fun ha => hb (hact i ha)) hb

end Sys2Proof.Machine
end

section
/-! The values right after a reset of the whole card, and that they meet every invariant. -/

namespace Sys2Proof.Machine

/-- An entry of the peer table after a reset: the own entry present with the own budget, every other absent (R134, R137, R157). -/
theorem peersReset_get (straps : Straps) (x : Station) : (peersReset straps)[x] =
    if x = straps.station then { Peer.absent with present := true, budget := some (clampBudget straps.budget.toNat) }
    else Peer.absent := by
  refine (vector_set_get _ straps.station x _).trans ?_
  split
  · rfl
  · exact Vector.getElem_replicate _

/-- A peer table that holds nothing and needs nothing is left by a halt as it is. -/
theorem haltPeers_reset (straps : Straps) :
    (tabulate 8 fun x : Station => { (peersReset straps)[x] with held := 0, need := none }) = peersReset straps := by
  refine Vector.ext fun k hk => ?_
  have entry := tabulate_get (fun x : Station => { (peersReset straps)[x] with held := 0, need := none }) ⟨k, hk⟩
  have same : { (peersReset straps)[(⟨k, hk⟩ : Station)] with held := 0, need := none } = (peersReset straps)[(⟨k, hk⟩ : Station)] := by
    rw [peersReset_get]
    split <;> rfl
  exact entry.trans same

/-- Power-on and backplane reset, written out: a card that finds RAIL-FAIL asserted is HALTED with its link OFF (R2, R168, R175). -/
theorem resetCard_eq (straps : Straps) (lines : Lines) (s : State) : resetCard straps lines s =
    { State.powerOn straps lines with
      pending := s.pending
      uag := unloaded s.uag
      link := { Link.reset straps with
        st := if lines.railFail then .off else .rolling
        out := if lines.railFail then Outgoing.empty else { Outgoing.empty with roll := true } }
      alert := { AlertMonitor.reset lines with halted := lines.railFail } } := by
  unfold resetCard
  dsimp only
  cases hf : lines.railFail with
  | false => rfl
  | true =>
    rw [if_pos rfl, if_pos rfl, if_pos rfl]
    show State.mk _ _ _ _ _ _ _ _ _ (tabulate 8 fun x : Station => { (peersReset straps)[x] with held := 0, need := none }) _ _ _ = _
    rw [haltPeers_reset]
    rfl

/-- Settles O27: each value is read off the reset card written out. -/
theorem powerOnValues : Obligations.PowerOnValues := by
  intro straps lines s
  refine ⟨resetCard straps lines s, rfl, rfl, ?_⟩
  rw [resetCard_eq]
  have steps : ∀ k, k < 128 → (Vector.replicate 128 (none : Option StepRecord))[k]? = some none := fun k hk => by
    rw [Vector.getElem?_replicate, if_pos hk]
  have timers : ∀ i : Site, TimerArray.reset.values[i] = 0 ∧ TimerArray.reset.running[i] = false := fun i =>
    ⟨Vector.getElem_replicate _, Vector.getElem_replicate _⟩
  exact ⟨powerOn_site straps lines, rfl, steps, rfl, fun _ => rfl, rfl, rfl, rfl, rfl, rfl, rfl, rfl, rfl, rfl, rfl, rfl,
    rfl, rfl, rfl, rfl, rfl, rfl, rfl, rfl, rfl, rfl, rfl, rfl, rfl, rfl, rfl, rfl, rfl, rfl, rfl, rfl, rfl, rfl, rfl, rfl, rfl, rfl, rfl,
    timers, rfl, rfl, rfl, rfl, rfl, rfl, rfl, rfl, rfl, rfl, peersReset_get straps, rfl, rfl, rfl, rfl, rfl, rfl, rfl, rfl, rfl, rfl, rfl, rfl, rfl, rfl, rfl⟩

/-- Settles O59: no site is ACTIVE, nothing is pending but the ROLL of a link that sends, and every count is 0. -/
theorem resetMeetsInvariants : Obligations.ResetMeetsInvariants := by
  obtain ⟨counts, queues⟩ := (bounded_iff State.reset).mp (bounded_powerOn _ _)
  refine ⟨rfl, fun u k hc => ?_, fun hh => ?_, ?_, counts, queues, fun i => ?_, ?_, ?_⟩
  · cases hc
  · cases hh
  · refine ⟨fun x => ?_, List.nodup_nil, fun x => ?_, by decide, by decide, by decide⟩
    all_goals rw [show State.reset.peers[x] = _ from peersReset_get _ x]
    · split <;> simp [goodPeer, Peer.absent, clampBudget, Config.resetBudget, Config.leastBudget]
    · split <;> simp [Peer.absent, State.reset, State.powerOn, Rail.reset]
  · rw [show State.reset.sites[i] = SiteRec.reset from powerOn_site _ _ i]
    exact (Vector.getElem_replicate _).symm
  · exact ⟨fun hs => (by cases hs), by decide, fun h8 => (by cases h8)⟩
  · exact unbinned_powerOn _ _

end Sys2Proof.Machine
end

section
/-! Settings and results, and the ends of a run that send or hold ABANDON: ABORT, HEAD-FAULT and a passed deadline. -/

namespace Sys2Proof.Machine

/-! ## SET-STOP-OPTION, SITE-RESTORE and CLEAR-RESULTS -/

/-- A HALTED card answers every command but the reads with HALTED (R176, R181). -/
theorem windowChecks_halted {c : Cmd} {b : Block} {s : State} (h : s.alert.halted = true) (hc : c.isRead = false) :
    windowChecks c b s = some .halted := by
  simp [windowChecks, firstRefusal, h, hc]

theorem runActive_true {s : State} (h : s.run.seq ≠ .idle) : runActive s = true := by simpa [runActive] using h

theorem runActive_false {s : State} (h : s.run.seq = .idle) : runActive s = false := by simp [runActive, h]

/-- A command whose first condition is a run in progress is refused during a run. -/
theorem guarded_runActive {b : Block} {conds : List (Bool × Response)} {act : State → State} {s : State} (h : s.run.seq ≠ .idle) :
    guarded b ((runActive s, .runActive) :: conds) act s = respond b .runActive s :=
  guarded_refused (by rw [runActive_true h]; rfl)

/-- Outside a run that condition does not refuse. -/
theorem guarded_runIdle {b : Block} {r : Response} {conds : List (Bool × Response)} {act : State → State} {s : State}
    (h : s.run.seq = .idle) : guarded b ((runActive s, r) :: conds) act s = guarded b conds act s := by
  rw [runActive_false h]
  rfl

/-- A value above the codes names no stop option (R191). -/
theorem stopOptionOf_none {n : Nat} (h : 2 ≤ n) : stopOptionOf n = none := by
  obtain ⟨k, rfl⟩ := Nat.exists_eq_add_of_le' h
  rfl

/-- SET-STOP-OPTION outside a run, by the option that its operand names (R170). -/
theorem setStopOptionOwner_idle {b : Block} {s : State} (h : s.run.seq = .idle) : setStopOptionOwner b s =
    match stopOptionOf (b.op 0) with
    | some o => respond b .ok (s.withStore { s.store with stopOption := o })
    | none => respond b .kindUnknown s := by
  unfold setStopOptionOwner
  rw [guarded_runIdle h]
  cases stopOptionOf (b.op 0) <;> rfl

/-- SITE-RESTORE outside a run, by its mask (R7). -/
theorem siteRestoreOwner_idle {b : Block} {s : State} (h : s.run.seq = .idle) : siteRestoreOwner b s =
    if b.opMask = 0 then respond b .siteRange s else respond b .ok (restoreSites b.opMask s) := by
  unfold siteRestoreOwner
  rw [guarded_runIdle h]
  split
  next h0 => exact guarded_refused (by simp [firstRefusal, h0])
  next h0 =>
    have named : (b.opMask == 0) = false := beq_eq_false_iff_ne.mpr h0
    exact guarded_accepted (by rw [named]; rfl)

/-- Settles O13: the window checks and the first condition refuse; past them each owner's case is its effect. -/
theorem settingsAndResults : Obligations.SettingsAndResults := by
  refine ⟨?_, ?_, fun b s s0 ⟨⟨ht, hc⟩, hw⟩ hidle => ?_, fun b s s0 ⟨⟨ht, hc⟩, hw⟩ hidle => ?_, fun b s s0 ⟨⟨ht, hc⟩, hw⟩ hidle => ?_⟩
  · rintro c straps b s s0 (rfl | rfl | rfl) ⟨ht, hc⟩ hh <;>
      exact congrArg _ (serve_refused ht hc (windowChecks_halted hh rfl))
  · rintro c straps b s s0 (rfl | rfl | rfl) ⟨⟨ht, hc⟩, hw⟩ hrun <;>
      exact congrArg _ ((serve_served ht hc hw).trans (guarded_runActive hrun))
  · have served : exec .setStopOption s = .next (setStopOptionOwner b s0) := congrArg _ (serve_served ht hc hw)
    rw [served, setStopOptionOwner_idle hidle]
    refine ⟨fun h0 => ?_, fun h1 => ?_, fun h2 => ?_⟩
    · rw [h0]; rfl
    · rw [h1]; rfl
    · rw [stopOptionOf_none h2]
  · have served : exec .siteRestore s = .next (siteRestoreOwner b s0) := congrArg _ (serve_served ht hc hw)
    rw [served, siteRestoreOwner_idle hidle]
    refine ⟨fun h0 => by rw [if_pos h0], fun h0 => ⟨restoreSites b.opMask s0, by rw [if_neg h0], rfl, fun i => ?_⟩⟩
    rw [restoreSites_site]
    simp [inMask]
  · refine ⟨clearAccounts s0, congrArg _ ((serve_served ht hc hw).trans (guarded_runIdle hidle)), rfl, fun i => ?_⟩
    unfold clearAccounts
    rw [mapSites_get]
    rfl

/-! ## Strays -/

/-- A CONTACT is awaited exactly while a CONTACT-CHECK is outstanding (R10). -/
theorem awaits_contact_iff (s : State) :
    awaits .contact s = true ↔ ∃ o, s.hci.outstanding = some o ∧ o.request.kind = .contactCheck := by
  unfold awaits Hci.awaiting
  cases s.hci.outstanding with
  | none => simp
  | some o => cases hk : o.request.kind <;> simp [hk, RequestKind.awaits]

/-- An ACCEPT is awaited by every request but CONTACT-CHECK and COMPARE. -/
theorem awaits_accept_iff (k : RequestKind) : k.awaits = .accept ↔ ¬ (k = .contactCheck ∨ k = .compare) := by
  cases k <;> simp [RequestKind.awaits]

/-- Settles O29: each reply's owner looks for the one request that awaits it, and otherwise counts the stray. -/
theorem unawaitedRepliesStray : Obligations.UnawaitedRepliesStray := by
  intro mask entries s
  refine ⟨fun h => ?_, fun h => ?_, fun h => ?_⟩
  · refine congrArg _ (if_neg fun ha => ?_)
    obtain ⟨o, ho, hk⟩ := (awaits_contact_iff s).mp ha
    exact h o ho hk
  · refine congrArg Host.Outcome.next ?_
    show takeAccept s = _
    unfold takeAccept
    cases ho : s.hci.outstanding with
    | none => rfl
    | some o => exact if_neg fun ha => (awaits_accept_iff _).mp ha (h o ho)
  · refine congrArg Host.Outcome.next ?_
    show takeResult entries s = _
    unfold takeResult
    split
    next ho => exact absurd rfl (h _ ho)
    · rfl

/-! ## An end cause with the HCI idle, or with a request outstanding -/

/-- An end cause that sends ABANDON, taken with an idle HCI: the whole state. -/
theorem endRun_quiet_eq {s : State} {cause : EndCause} (hq : HciQuiet s) (hr : s.run.seq ≠ .idle) (he : s.run.ending = none)
    (hc : cause ≠ .complete) (hn : cause ≠ .noSites) : endRun cause s =
      sendRequest .abandon (abandonEffects
        { endingState cause s with hci := { (endingState cause s).hci with held := none } }) := by
  rw [endRun_taken cause hr he, if_neg (by simp [hc, hn])]
  exact handAbandon_quiet hq

/-- An end cause that sends ABANDON, taken while a request is outstanding: ABANDON is held, and at most a held unit is cut short. -/
theorem endRun_awaiting {s : State} {cause : EndCause} {o : Outstanding} (ho : s.hci.outstanding = some o) (hr : s.run.seq ≠ .idle)
    (he : s.run.ending = none) (hc : cause ≠ .complete) (hn : cause ≠ .noSites) :
    ∃ f, endRun cause s = { s with
      run := { s.run with ending := some cause, teardown := .abandon, inflight := f }
      hci := { s.hci with held := some .abandon } } := by
  rw [endRun_taken cause hr he, if_neg (by simp [hc, hn])]
  obtain ⟨r, hab, rfl | rfl⟩ := handAbandon_awaiting (s := endingState cause s) ho
  · exact ⟨s.run.inflight, hab⟩
  · exact ⟨none, hab⟩

/-- A run whose ABANDON is held behind an outstanding request settles but for its unit in flight. -/
theorem settle_awaiting {s : State} {cause : EndCause} {o : Outstanding} (ho : s.hci.outstanding = some o) (hr : s.run.seq ≠ .idle)
    (he : s.run.ending = some cause) (ht : s.run.teardown = .abandon) (hh : s.hci.held = some .abandon) :
    ∃ f, settle s = { s with run := { s.run with inflight := f } } := by
  have busy : abandonBusy s.hci = true := by simp [abandonBusy, hh]
  cases hu : unitDue s with
  | none => exact ⟨s.run.inflight, settle_rest (nextAction_none (hciDue_awaiting ho) hu (teardown_waits hr he ht busy))⟩
  | some t =>
    have resolved : t = unitResolved s := by
      unfold unitDue at hu
      split at hu
      · split at hu
        · exact (Option.some.inj hu).symm
        · cases hu
      · cases hu
    have next : nextAction s = some t := by
      unfold nextAction
      rw [hciDue_awaiting ho, hu]
    refine ⟨none, (settle_once next ?_).trans resolved⟩
    subst resolved
    exact nextAction_none (hciDue_awaiting (o := o) ho) (unitDue_none rfl) (teardown_waits hr he ht busy)

/-- Settles O22: past ABORT's two conditions the end cause is taken with the HCI idle, with a request outstanding, or not at all. -/
theorem abortEndsRun : Obligations.AbortEndsRun := by
  intro b s s0 ⟨⟨ht, hc⟩, hw⟩ hrun hout
  have effect : exec .abort s = .next (settle (endRun .aborted (s0.withCwc { s0.cwc with outAbort := some b }))) := by
    refine congrArg _ ((serve_served ht hc hw).trans (guarded_accepted ?_))
    simp [abortChecks, firstRefusal, hrun, hout]
  rw [effect]
  refine ⟨fun he hq => ?_, fun o he ho => ?_, fun cause he => ?_⟩
  · have hq' : HciQuiet (s0.withCwc { s0.cwc with outAbort := some b }) := hq
    obtain ⟨_, hsent, hrest⟩ := endRun_quiet (cause := .aborted) hq' hrun he (by simp) (by simp)
    refine ⟨_, rfl, ?_⟩
    rw [hrest]
    have eq := endRun_quiet_eq (cause := .aborted) hq' hrun he (by simp) (by simp)
    refine ⟨by rw [eq]; rfl, by rw [eq]; rfl, by rw [eq]; rfl, hsent, fun i => ?_, ?_⟩
    · rw [eq, sendRequest_sites, abandonEffects_site]; rfl
    · rw [eq]
      exact ⟨rfl, rfl, rfl, rfl, rfl, rfl, rfl, rfl⟩
  · obtain ⟨f, heq⟩ := endRun_awaiting (cause := .aborted) (s := s0.withCwc { s0.cwc with outAbort := some b }) ho hrun he
      (by simp) (by simp)
    obtain ⟨f', hset⟩ := settle_awaiting (s := endRun .aborted (s0.withCwc { s0.cwc with outAbort := some b })) (o := o)
      (by rw [heq]; exact ho) (by rw [heq]; exact hrun) (by rw [heq]) (by rw [heq]) (by rw [heq])
    refine ⟨_, rfl, ?_⟩
    rw [hset, heq]
    exact ⟨rfl, rfl, rfl, rfl, rfl, rfl, rfl⟩
  · rw [endRun_ending (s := s0.withCwc { s0.cwc with outAbort := some b }) .aborted he]

/-- Settles O34: the latch is set beside the end cause, which is taken with the HCI idle, with a request outstanding, or not at all. -/
theorem headFaultTaken : Obligations.HeadFaultTaken := by
  intro s
  have ended := leaves_endRun .headFault s
  have settled := leaves_settle { endRun .headFault s with alert := { (endRun .headFault s).alert with headFault := true } }
  have alert : (takeHeadFault s).alert = { s.alert with headFault := true } := by
    refine settled.alert.trans ?_
    show { (endRun .headFault s).alert with headFault := true } = _
    rw [ended.alert]
  refine ⟨takeHeadFault s, rfl, alert, by rw [alert]; rfl, fun o ho => ?_, fun o ho hr he => ?_, fun hr he hq => ?_,
    fun hr hq hi => ?_⟩
  · have kept := ((moves_endRun .headFault s).awaiting ho).1
    exact (Moves.awaiting (s := { endRun .headFault s with alert := { (endRun .headFault s).alert with headFault := true } })
      (moves_settle _) kept).1
  · obtain ⟨f, heq⟩ := endRun_awaiting (cause := .headFault) ho hr he (by simp) (by simp)
    obtain ⟨f', hset⟩ := settle_awaiting (o := o) (cause := .headFault)
      (s := { endRun .headFault s with alert := { (endRun .headFault s).alert with headFault := true } })
      (by rw [heq]; exact ho) (by rw [heq]; exact hr) (by rw [heq]) (by rw [heq]) (by rw [heq])
    unfold takeHeadFault
    rw [hset, heq]
    exact ⟨rfl, rfl⟩
  · obtain ⟨hrun, hsent, _⟩ := endRun_quiet (cause := .headFault) hq hr he (by simp) (by simp)
    have rest : takeHeadFault s = { endRun .headFault s with alert := { (endRun .headFault s).alert with headFault := true } } :=
      settle_abandoned (cause := .headFault) (d := Config.acceptDeadline) (by rw [hrun]; exact hr) (by rw [hrun]) (by rw [hrun])
        hsent.1 (by rw [hrun])
    rw [rest]
    exact ⟨by rw [hrun], hsent⟩
  · obtain ⟨ho, hh, hd⟩ := hq
    unfold takeHeadFault
    rw [endRun_idle .headFault hr]
    exact settle_rest (nextAction_none (hciDue_empty hh hd) (unitDue_none hi) (sequencerDue_idle hr))

/-! ## A passed deadline -/

/-- The error record that a passed deadline leaves: the one that was there, or that of the request (R20). -/
theorem fillError_err (k : RequestKind) (s : State) : (fillError k s).hci.err = some (s.hci.err.getD (headErrorOf k s)) := by
  unfold fillError
  split
  next e he => rw [he]; rfl
  next he => rw [he]; rfl

theorem fillError_others (k : RequestKind) (s : State) : ∃ e, fillError k s = { s with hci := { s.hci with err := e } } := by
  unfold fillError
  split
  next e he => exact ⟨s.hci.err, rfl⟩
  · exact ⟨_, rfl⟩

/-- Settles O35: the record is filled before the HCI goes on, and nothing after that touches it. -/
theorem deadlinePassed : Obligations.DeadlinePassed := by
  intro s
  refine ⟨fun ho => ?_, fun o ho => ?_⟩
  · refine congrArg Host.Outcome.next ?_
    show passDeadline s = s
    unfold passDeadline
    rw [ho]
  · have taken : exec .replyDeadline s =
        .next (settle (endRun .headLink (hciPump (hciIdle (fillError o.request.kind (elapse o.deadline s)))))) := by
      refine congrArg Host.Outcome.next ?_
      show passDeadline s = _
      unfold passDeadline
      rw [ho]
    obtain ⟨e, hfill⟩ := fillError_others o.request.kind (elapse o.deadline s)
    have later : Leaves (fillError o.request.kind (elapse o.deadline s))
        (settle (endRun .headLink (hciPump (hciIdle (fillError o.request.kind (elapse o.deadline s)))))) :=
      (((leaves_hciIdle _).trans (leaves_hciPump _)).trans (leaves_endRun _ _)).trans (leaves_settle _)
    have err := later.err.trans (fillError_err o.request.kind (elapse o.deadline s))
    refine ⟨_, taken, fun h0 => ?_, fun e he => ?_, ?_, fun i => ?_, fun hr he hh hd => ?_⟩
    · rw [err, show (elapse o.deadline s).hci.err = none from h0]
      rfl
    · rw [err, show (elapse o.deadline s).hci.err = some e from he]
      rfl
    · rw [later.strays, hfill]
      rfl
    · have account := later.account i
      rw [hfill] at account ⊢
      exact account
    · have quiet : HciQuiet (hciIdle (fillError o.request.kind (elapse o.deadline s))) := by
        rw [hfill]
        exact ⟨rfl, hh, hd⟩
      have pump : hciPump (hciIdle (fillError o.request.kind (elapse o.deadline s))) =
          hciIdle (fillError o.request.kind (elapse o.deadline s)) := by
        unfold hciPump
        rw [hciDue_empty quiet.2.1 quiet.2.2]
        rfl
      rw [pump]
      obtain ⟨hrun, hsent, hrest⟩ := endRun_quiet (cause := .headLink) quiet (by rw [hfill]; exact hr) (by rw [hfill]; exact he)
        (by simp) (by simp)
      rw [hrest]
      exact ⟨by rw [hrun], hsent⟩

end Sys2Proof.Machine
end

section
/-! Messages of the head: CONTACT, ACCEPT, READY, an overcurrent, and a high limit. -/

namespace Sys2Proof.Machine

/-! ## CONTACT -/

theorem mem_allSites (i : Site) : i ∈ allSites := List.mem_finRange i

/-- No site is counted ACTIVE exactly when none is ACTIVE. -/
theorem activeCount_eq_zero_iff (s : State) : activeCount s = 0 ↔ ∀ i : Site, s.sites[i].state ≠ .active := by
  unfold activeCount activeSites
  simp [List.filter_eq_nil_iff, mem_allSites]

/-- Joining a group: the own group and mark 0 are set, and MARK 0 is handed over by a link that sends (R62). -/
theorem joinGroup_joins (g : Group) (s : State) : (joinGroup g s).run = s.run ∧ (joinGroup g s).sites = s.sites
    ∧ (joinGroup g s).sync.ownGroup = some g ∧ (joinGroup g s).sync.markCount = 0
    ∧ (linkSends s = true → (joinGroup g s).link.out.mark = some (g, 0)) := by
  unfold joinGroup handFrame
  by_cases hl : linkSends s = true
  · rw [if_pos (by exact hl)]
    exact ⟨rfl, rfl, rfl, rfl, fun _ => rfl⟩
  · rw [if_neg (by exact hl)]
    exact ⟨rfl, rfl, rfl, rfl, fun h => absurd h hl⟩

/-- Settles O28: the applied contact mask decides which way the start sequence goes on. -/
theorem contactApplied : Obligations.ContactApplied := by
  intro mask d s ho
  have taken : exec (.contact mask) s = .next (settle (continueStart (applyContact mask (hciIdle s)))) :=
    congrArg _ (if_pos ((awaits_contact_iff s).mpr ⟨_, ho, rfl⟩))
  have site := applyContact_site mask (hciIdle s)
  have none_active : (∀ i : Site, s.sites[i].state = .tripped ∨ mask.getLsbD i = false) ↔
      activeCount (applyContact mask (hciIdle s)) = 0 := by
    rw [activeCount_eq_zero_iff]
    refine forall_congr' fun i => ?_
    rw [site]
    show _ ↔ (if s.sites[i].state = .tripped then s.sites[i] else _).state ≠ .active
    by_cases ht : s.sites[i].state = .tripped
    · rw [if_pos ht]
      exact iff_of_true (.inl ht) fun h => nomatch ht.symm.trans h
    · rw [if_neg ht]
      cases hm : mask.getLsbD i
      · exact iff_of_true (.inr rfl) fun h => nomatch (if_neg (Bool.eq_false_iff.mp hm)).symm.trans h
      · exact iff_of_false (fun h => h.elim ht nofun) fun h => h (if_pos hm)
  have some_active : (∃ i : Site, s.sites[i].state ≠ .tripped ∧ mask.getLsbD i = true) →
      activeCount (applyContact mask (hciIdle s)) ≠ 0 := fun ⟨i, ht, hm⟩ h0 => by
    obtain h | h := none_active.mpr h0 i
    · exact ht h
    · rw [hm] at h; cases h
  refine ⟨applyContact mask (hciIdle s), site, rfl, rfl, fun he => ?_, fun he h0 => ?_, fun he hg ha => ?_, fun g he hg ha => ?_⟩
  · rw [taken]
    exact congrArg _ (congrArg _ (if_pos (Option.isSome_iff_ne_none.mpr he)))
  all_goals
    have going : ¬ (applyContact mask (hciIdle s)).run.ending.isSome = true := by
      rw [show (applyContact mask (hciIdle s)).run.ending = none from he]; simp
    rw [taken]
    unfold continueStart
    rw [if_neg going]
  · rw [if_pos (none_active.mp h0)]
  · rw [if_neg (some_active ha)]
    dsimp only
    rw [show (applyContact mask (hciIdle s)).run.group = none from hg]
    rfl
  · rw [if_neg (some_active ha)]
    dsimp only
    rw [show (applyContact mask (hciIdle s)).run.group = some g from hg]
    refine ⟨_, rfl, ?_⟩
    obtain ⟨run, sites, own, count, mark⟩ := joinGroup_joins g (applyContact mask (hciIdle s))
    exact ⟨congrArg (fun r : Run => { r with stage := .enter r.first }) run, sites, own, count, mark⟩

/-! ## ACCEPT -/

/-- An HCI that awaits a reply, or is quiet, has nothing to send. -/
theorem hciDue_none {s : State} (h : s.hci.outstanding ≠ none ∨ HciQuiet s) : hciDue s = none := by
  rcases h with h | ⟨_, hh, hd⟩
  · obtain ⟨o, ho⟩ := Option.ne_none_iff_exists'.mp h
    exact hciDue_awaiting ho
  · exact hciDue_empty hh hd

/-- No site of a mask is busy. -/
theorem noneBusy_iff (mask : SiteMask) (s : State) :
    (allSites.all fun i => !(inMask mask i && s.sites[i].busy)) = true ↔ ∀ i : Site, mask.getLsbD i = true → s.sites[i].busy = false := by
  simp only [List.all_eq_true, mem_allSites, inMask, true_implies, Bool.not_eq_true', Bool.and_eq_false_iff]
  exact forall_congr' fun i => by cases mask.getLsbD i <;> simp

/-- Timers started one after another: the named sites are busy with their timers at 0, and nothing else changes. -/
theorem startTimers_foldl (l : List Site) (s : State) :
    ((l.foldl (fun s i => startTimer i s) s).withSites s.sites).withTimers s.timers = s
    ∧ ∀ j : Site,
      (l.foldl (fun s i => startTimer i s) s).sites[j] = (if j ∈ l then { s.sites[j] with busy := true } else s.sites[j])
      ∧ (l.foldl (fun s i => startTimer i s) s).timers.values[j] = (if j ∈ l then 0 else s.timers.values[j])
      ∧ (l.foldl (fun s i => startTimer i s) s).timers.running[j] = (if j ∈ l then true else s.timers.running[j]) := by
  induction l generalizing s with
  | nil => exact ⟨rfl, fun j => ⟨rfl, rfl, rfl⟩⟩
  | cons i l ih =>
    obtain ⟨hrest, hsite⟩ := ih (startTimer i s)
    refine ⟨?_, fun j => ?_⟩
    · exact congrArg (fun x => (x.withSites s.sites).withTimers s.timers) hrest
    · obtain ⟨hs, hv, hr⟩ := hsite j
      rw [List.foldl_cons, hs, hv, hr, startTimer_site, startTimer_values, startTimer_running]
      by_cases hj : j = i
      · subst hj; simp
      · simp [hj]

/-- An OPERATE's ACCEPT taken: its sites that are not TRIPPED are started, and its unit learns of it (R12). -/
theorem startTimers_eq (mask : SiteMask) (s : State) :
    ((startTimers mask s).withSites s.sites).withTimers s.timers = s
    ∧ (∀ j : Site, mask.getLsbD j = true → s.sites[j].state ≠ .tripped →
        (startTimers mask s).sites[j] = { s.sites[j] with busy := true }
        ∧ (startTimers mask s).timers.values[j] = 0 ∧ (startTimers mask s).timers.running[j] = true)
    ∧ (∀ j : Site, mask.getLsbD j = false ∨ s.sites[j].state = .tripped →
        (startTimers mask s).sites[j] = s.sites[j] ∧ (startTimers mask s).timers.values[j] = s.timers.values[j]
        ∧ (startTimers mask s).timers.running[j] = s.timers.running[j]) := by
  obtain ⟨hrest, hsite⟩ := startTimers_foldl (allSites.filter fun i => inMask mask i && s.sites[i].state != .tripped) s
  have named : ∀ j : Site, j ∈ (allSites.filter fun i => inMask mask i && s.sites[i].state != .tripped) ↔
      mask.getLsbD j = true ∧ s.sites[j].state ≠ .tripped := fun j => by
    simp [List.mem_filter, mem_allSites, inMask]
  refine ⟨hrest, fun j hm ht => ?_, fun j hj => ?_⟩ <;> obtain ⟨hs, hv, hr⟩ := hsite j
  · have hj := (named j).mpr ⟨hm, ht⟩
    rw [if_pos hj] at hs hv hr
    exact ⟨hs, hv, hr⟩
  · have hj' : ¬ j ∈ (allSites.filter fun i => inMask mask i && s.sites[i].state != .tripped) := fun h => by
      obtain ⟨hm, ht⟩ := (named j).mp h
      rcases hj with hj | hj
      · rw [hm] at hj; cases hj
      · exact ht hj
    rw [if_neg hj'] at hs hv hr
    exact ⟨hs, hv, hr⟩

/-- An awaited ACCEPT frees the HCI and has the effect of its request. -/
theorem exec_accept {o : Outstanding} {s : State} (ho : s.hci.outstanding = some o) (ha : o.request.kind.awaits = .accept) :
    exec .accept s = .next (settle (acceptEffect o.request (hciIdle s))) := by
  refine congrArg Host.Outcome.next ?_
  show takeAccept s = _
  unfold takeAccept
  simp only [ho, ha, if_true]

/-- Settles O30: the unit's resolution is read off `nextAction`, and each ACCEPT off the request it answers. -/
theorem acceptTaken : Obligations.AcceptTaken := by
  refine ⟨fun f s hf hq => ⟨fun hk hb => ?_, fun hk hr he hst => ?_⟩, fun g size un mask data d s ho => ?_, fun mask d s ho => ?_,
    fun d s ho => ?_⟩
  · unfold nextAction unitDue
    rw [hciDue_none hq]
    simp only [hf, hk, (noneBusy_iff f.mask s).mpr hb, and_self, if_true]
    rfl
  · have unit : unitDue s = none := by
      unfold unitDue
      simp only [hf]
      refine if_neg fun ⟨hop, hall⟩ => ?_
      rcases hk with hk | ⟨i, hm, hb⟩
      · exact hk hop
      · rw [(noneBusy_iff f.mask s).mp hall i hm] at hb
        cases hb
    refine settle_rest (nextAction_none (hciDue_none hq) unit ?_)
    unfold sequencerDue
    simp only [hr, he, runningDue, hst, hf, Option.isSome_some, if_true]
  · obtain ⟨hrest, hstart, hleft⟩ := startTimers_eq mask (hciIdle s)
    have field : ∀ {α : Type} (p : State → α), p ((startTimers mask (hciIdle s)).withSites s.sites |>.withTimers s.timers) = p (hciIdle s) :=
      fun p => congrArg p hrest
    refine ⟨unitAccepted (startTimers mask (hciIdle s)), exec_accept ho rfl, field State.hci, hstart, hleft, field State.store,
      field State.link, field State.peers, field State.rail, field State.cwc, field State.uag, fun f b hf hk => ?_⟩
    have run : (startTimers mask (hciIdle s)).run = s.run := field State.run
    unfold unitAccepted
    rw [run, hf]
    simp only [Option.map_some, hk]
  · exact exec_accept ho rfl
  · exact exec_accept ho rfl

/-! ## A failure entered -/

theorem failureEntered_failRec (u : Flight) (kind : FailKind) (v : Nat) (o : Option (BitVec 32)) (x : SiteRec) :
    FailureEntered (failRecord u kind v o) x (failRec (some u) kind v o x) := by
  unfold FailureEntered failRec countFailUnit logRecord
  dsimp only [Config.logPlaces, satAdd]
  by_cases hl : x.log.length < 32
  · simp only [hl, if_true]
    split <;> exact ⟨rfl, rfl, rfl⟩
  · simp only [hl, if_false]
    split <;> exact ⟨rfl, rfl, rfl⟩

/-- An entered failure is seen as well in a record that shows the same account. -/
theorem FailureEntered.of_same {f : FailRec} {x y z : SiteRec} (h : FailureEntered f x y) (hs : SameAccount y z) : FailureEntered f x z := by
  obtain ⟨hl, ho, hu⟩ := h
  obtain ⟨hl', _, ho', hu', _, _⟩ := hs
  exact ⟨hl' ▸ hl, ho' ▸ ho, hu' ▸ hu⟩

theorem sameAccount_retireRec (bin : Nat) (x : SiteRec) : SameAccount x (retireRec bin x) := by
  unfold retireRec
  split <;> exact ⟨rfl, rfl, rfl, rfl, rfl, rfl⟩

theorem failureEntered_busyFailRec (u : Flight) (kind : FailKind) (v : Nat) (t : TimedStep) (x : SiteRec) :
    FailureEntered (failRecord u kind v none) x (busyFailRec (some u) kind v t x) := by
  have entered := failureEntered_failRec u kind v none x
  unfold busyFailRec
  split
  · exact entered.of_same (sameAccount_retireRec _ _)
  · exact entered

/-- State and bin after a busy failure: RETIRE makes an ACTIVE site RETIRED with the step's bin (R92). -/
theorem busyFailRec_standing (u : Option Flight) (kind : FailKind) (v : Nat) (t : TimedStep) (x : SiteRec) :
    ((busyFailRec u kind v t x).state, (busyFailRec u kind v t x).bin) =
      if x.state = .active ∧ t.action = .retire then (.retired, t.bin) else (x.state, x.bin) := by
  obtain ⟨l, o, n, m, hf⟩ := failRec_eq u kind v none x
  unfold busyFailRec retireRec
  rw [hf]
  by_cases ha : t.action = .retire
  · by_cases hx : x.state = .active <;> simp [ha, hx]
  · simp [ha]

/-! ## A high limit -/

theorem moves_settleFor (fuel : Nat) (s : State) : Moves s (settleFor fuel s) :=
  settleFor_keeps (P := Moves s) (fun _ _ h hs => hs.trans (moves_nextAction h)) fuel s .refl

/-- Settling goes on from the first action. -/
theorem moves_settle_from {s t : State} (h : nextAction s = some t) : Moves t (settle s) := by
  have fuel : settleFuel = (2 ^ 37 - 1) + 1 := by decide
  unfold settle
  rw [fuel]
  unfold settleFor
  rw [h]
  exact moves_settleFor _ t

/-- A mask that names a site is not empty. -/
theorem addSite_ne_zero (m : SiteMask) (i : Site) : addSite m i ≠ 0 := fun h => by
  have hi := inMask_addSite m i i
  rw [h, inMask_zero] at hi
  simp at hi

/-- An expired site and what it leaves of the others (R91). -/
theorem expireSite_site (i j : Site) (t : TimedStep) (s : State) : (expireSite i t s).sites[j] =
    if j = i then busyFailRec s.run.inflight .slow t.limits.high t { s.sites[i] with busy := false } else s.sites[j] := by
  unfold expireSite addPendingDrop
  rw [busyFailure_eq]
  show (updSite i _ (stopTimerAt i t.limits.high s)).sites[j] = _
  rw [updSite_get, stopTimerAt_site, stopTimerAt_site, if_pos rfl]
  split <;> rfl

/-- Beside its site an expiry touches the site's timer and the pending-drop mask alone. -/
theorem expireSite_others (i : Site) (t : TimedStep) (s : State) :
    (expireSite i t s).run = s.run ∧ (expireSite i t s).hci = { s.hci with pendingDrop := addSite s.hci.pendingDrop i }
    ∧ (expireSite i t s).timers = (stopTimerAt i t.limits.high s).timers := by
  unfold expireSite addPendingDrop
  rw [busyFailure_eq]
  exact ⟨rfl, rfl, rfl⟩

/-- An idle HCI with a pending DROP sends it first. -/
theorem nextAction_drop {s : State} (ho : s.hci.outstanding = none) (hd : s.hci.pendingDrop ≠ 0) :
    nextAction s = some (sendRequest (.drop s.hci.pendingDrop) { s with hci := { s.hci with pendingDrop := 0 } }) := by
  unfold nextAction hciDue
  simp only [ho, hd, ne_eq, not_false_eq_true, if_true]

/-- Settles O36: the expiry is the event's part, and settling from it sends the DROP and starts nothing. -/
theorem highLimitExpired : Obligations.HighLimitExpired := by
  intro i d f s hd hrun hf
  generalize hn : d.limits.high - s.timers.values[i] = n
  have taken : exec (.highLimitExpiry i) s = .next (settle (expireSite i d (elapse n s))) := by
    refine congrArg Host.Outcome.next ?_
    show passHighLimit i s = _
    unfold passHighLimit
    simp only [hd, hrun, if_true, hn]
  obtain ⟨run, hci, timers⟩ := expireSite_others i d (elapse n s)
  have site := expireSite_site i
  have here : (expireSite i d (elapse n s)).sites[i] =
      busyFailRec (some f) .slow d.limits.high d { s.sites[i] with busy := false } := by
    rw [site, if_pos rfl, show (elapse n s).run.inflight = some f from hf]
    rfl
  have spared := spares_busyFailRec (some f) .slow d.limits.high d { s.sites[i] with busy := false }
  have others : ∀ j : Site, j ≠ i → (expireSite i d (elapse n s)).sites[j] = s.sites[j] := fun j hj => by
    rw [site, if_neg hj]
    rfl
  have stopped : (expireSite i d (elapse n s)).sites[i].busy = false := by
    rw [here, spared.busy]
  have leaves := leaves_settle (expireSite i d (elapse n s))
  refine ⟨⟨_, taken, by rw [run]; exact hf, stopped, fun j hj => by rw [others j hj]⟩, _, taken, ?_, ?_, ?_, ?_, fun ha hr => ?_,
    fun j hj => ?_, fun ho => ?_, fun o ho j => ?_⟩
  · exact Bool.eq_false_iff.mpr fun hb => by rw [leaves.busy i hb] at stopped; cases stopped
  · refine (moves_settle _).running i ?_
    rw [timers, stopTimerAt_running, if_pos rfl]
  · rw [leaves.values, timers, stopTimerAt_values, if_pos rfl]
  · have entered := failureEntered_busyFailRec f .slow d.limits.high d { s.sites[i] with busy := false }
    rw [← here] at entered
    exact entered.of_same (leaves.account i)
  · have standing := busyFailRec_standing (some f) .slow d.limits.high d { s.sites[i] with busy := false }
    rw [← here, if_pos ⟨ha, hr⟩] at standing
    obtain ⟨hst, hbin⟩ := Prod.mk.inj standing
    obtain ⟨hst', hbin'⟩ := leaves.site i (by rw [hst]; simp)
    exact ⟨hst'.trans hst, hbin'.trans hbin⟩
  · have account := leaves.account j
    rw [others j hj] at account
    exact account
  · have idle : (expireSite i d (elapse n s)).hci.outstanding = none := by
      rw [hci]
      show Option.map _ s.hci.outstanding = none
      rw [ho]
      rfl
    have mask : (expireSite i d (elapse n s)).hci.pendingDrop = addSite s.hci.pendingDrop i := by rw [hci]; rfl
    have sent := moves_settle_from (nextAction_drop idle (by rw [mask]; exact addSite_ne_zero _ _))
    obtain ⟨hout, hpend⟩ := sent.awaiting rfl
    refine ⟨addSite s.hci.pendingDrop i, by rw [hout, mask]; rfl, hpend, fun j => inMask_addSite _ _ _⟩
  · have awaiting : (expireSite i d (elapse n s)).hci.outstanding = some { o with deadline := o.deadline - n } := by
      rw [hci]
      show Option.map _ s.hci.outstanding = _
      rw [ho]
      rfl
    rw [((moves_settle _).awaiting awaiting).2, hci]
    exact inMask_addSite _ _ _

end Sys2Proof.Machine
end

section
/-! READY: the sites it names, one after another (R16, R93). -/

namespace Sys2Proof.Machine

/-- A busy site's record after a READY has stopped and judged it at the value `v` (R16, R89, R90). -/
def readyRec (u : Option Flight) (timed : Option TimedStep) (v : Nat) (x : SiteRec) : SiteRec :=
  match timed with
  | none => { x with busy := false }
  | some t => judgeRec u t v { x with busy := false }

/-- A site that is not busy counts a stray. -/
theorem readySite_idle {i : Site} {s : State} (h : s.sites[i].busy = false) : readySite i s = addStrays 1 s := by
  unfold readySite
  rw [h]
  rfl

/-- A busy site is stopped and judged at its busy time. -/
theorem readySite_busy {i : Site} {s : State} (h : s.sites[i].busy = true) :
    readySite i s = updSite i (fun _ => readyRec s.run.inflight s.timers.timed (busyTime i s) s.sites[i]) (stopTimerAt i (busyTime i s) s) := by
  have stopped : (stopTimerAt i (busyTime i s) s).sites[i] = { s.sites[i] with busy := false } := by
    rw [stopTimerAt_site, if_pos rfl]
  unfold readySite
  rw [if_pos h]
  cases ht : s.timers.timed with
  | none =>
    have unjudged : judgeBusyTime i (busyTime i s) (stopTimerAt i (busyTime i s) s) = stopTimerAt i (busyTime i s) s := by
      unfold judgeBusyTime
      rw [show (stopTimerAt i (busyTime i s) s).timers.timed = none from ht]
    rw [unjudged]
    exact (updSite_of_fixed stopped.symm).symm
  | some t =>
    rw [judgeBusyTime_eq (show (stopTimerAt i (busyTime i s) s).timers.timed = some t from ht)]
    exact updSite_congr (congrArg (judgeRec s.run.inflight t (busyTime i s)) stopped)

theorem readySite_site {i : Site} {s : State} (h : s.sites[i].busy = true) (j : Site) : (readySite i s).sites[j] =
    if j = i then readyRec s.run.inflight s.timers.timed (busyTime i s) s.sites[i] else s.sites[j] := by
  rw [readySite_busy h, updSite_get, stopTimerAt_site]
  split <;> rfl

/-- What the sites of a list make of a state when they are named in a READY. -/
structure ReadyTaken (l : List Site) (s t : State) : Prop where
  run : t.run = s.run
  timed : t.timers.timed = s.timers.timed
  left : ∀ j : Site, j ∉ l ∨ s.sites[j].busy = false →
    t.sites[j] = s.sites[j] ∧ t.timers.values[j] = s.timers.values[j] ∧ t.timers.running[j] = s.timers.running[j]
  judged : ∀ j : Site, j ∈ l → s.sites[j].busy = true →
    t.sites[j] = readyRec s.run.inflight s.timers.timed (busyTime j s) s.sites[j]
    ∧ t.timers.values[j] = busyTime j s ∧ t.timers.running[j] = false
  strays : s.hci.strays ≤ 65535 → t.hci.strays = min 65535 (s.hci.strays + (l.filter fun j => !s.sites[j].busy).length)
  idle : (∀ j ∈ l, s.sites[j].busy = false) → t = s.withHci { s.hci with strays := t.hci.strays }

theorem readyTaken_nil (s : State) : ReadyTaken [] s s where
  run := rfl
  timed := rfl
  left _ _ := ⟨rfl, rfl, rfl⟩
  judged _ hj := absurd hj List.not_mem_nil
  strays h := (Nat.min_eq_right h).symm
  idle _ := rfl

/-- A busy time depends on the timed step and the site's timer alone. -/
theorem busyTime_congr {j : Site} {s t : State} (ht : t.timers.timed = s.timers.timed) (hv : t.timers.values[j] = s.timers.values[j]) :
    busyTime j t = busyTime j s := by
  unfold busyTime
  rw [ht, hv]

/-- One stray and then `n` more, each saturating, are `n + 1` strays. -/
theorem min_strays (a n : Nat) : min 65535 (min 65535 (a + 1) + n) = min 65535 (a + (n + 1)) := by omega

/-- The idle site at the head of the list. -/
theorem readyTaken_cons_idle {i : Site} {l : List Site} {s t : State} (hi : s.sites[i].busy = false)
    (h : ReadyTaken l (addStrays 1 s) t) : ReadyTaken (i :: l) s t where
  run := h.run
  timed := h.timed
  left j hj := h.left j <| hj.imp_left fun hn hm => hn (List.mem_cons_of_mem i hm)
  judged j hj hb := by
    rcases List.mem_cons.mp hj with rfl | hj
    · rw [hi] at hb; cases hb
    · exact h.judged j hj hb
  strays hs := by
    rw [h.strays (Nat.min_le_left _ _), List.filter_cons_of_pos (by rw [hi]; rfl), List.length_cons]
    exact min_strays _ _
  idle hall := h.idle fun j hj => hall j (List.mem_cons_of_mem i hj)

/-- The busy site at the head of the list. -/
theorem readyTaken_cons_busy {i : Site} {l : List Site} {s t : State} (hn : i ∉ l) (hi : s.sites[i].busy = true)
    (h : ReadyTaken l (readySite i s) t) : ReadyTaken (i :: l) s t := by
  have hci : (readySite i s).hci = s.hci := by rw [readySite_busy hi]; rfl
  have run : (readySite i s).run = s.run := by rw [readySite_busy hi]; rfl
  have timed : (readySite i s).timers.timed = s.timers.timed := by rw [readySite_busy hi]; rfl
  have values : ∀ j, (readySite i s).timers.values[j] = if j = i then busyTime i s else s.timers.values[j] := fun j => by
    rw [readySite_busy hi]; exact stopTimerAt_values i j _ s
  have running : ∀ j, (readySite i s).timers.running[j] = if j = i then false else s.timers.running[j] := fun j => by
    rw [readySite_busy hi]; exact stopTimerAt_running i j _ s
  have other : ∀ j : Site, j ≠ i → (readySite i s).sites[j] = s.sites[j] ∧ (readySite i s).timers.values[j] = s.timers.values[j]
      ∧ (readySite i s).timers.running[j] = s.timers.running[j] := fun j hj => by
    rw [readySite_site hi, values, running, if_neg hj, if_neg hj, if_neg hj]
    exact ⟨rfl, rfl, rfl⟩
  have filtered : (l.filter fun j => !(readySite i s).sites[j].busy) = l.filter fun j => !s.sites[j].busy :=
    List.filter_congr fun j hj => by rw [(other j fun h => hn (h ▸ hj)).1]
  refine ⟨h.run.trans run, h.timed.trans timed, fun j hj => ?_, fun j hj hb => ?_, fun hs => ?_, fun hall => ?_⟩
  · have hji : j ≠ i := by
      rintro rfl
      rcases hj with hj | hj
      · exact hj List.mem_cons_self
      · rw [hi] at hj; cases hj
    obtain ⟨hsite, hv, hr⟩ := other j hji
    obtain ⟨hsite', hv', hr'⟩ := h.left j (hj.imp (fun hm hm' => hm (List.mem_cons_of_mem i hm')) fun hb => by rw [hsite]; exact hb)
    exact ⟨hsite'.trans hsite, hv'.trans hv, hr'.trans hr⟩
  · by_cases hji : j = i
    · subst hji
      obtain ⟨hsite, hv, hr⟩ := h.left j (.inl hn)
      rw [hsite, hv, hr, readySite_site hi, values, running]
      simp only [if_true, and_self]
    · obtain ⟨hsite, hv, _⟩ := other j hji
      have judged := h.judged j ((List.mem_cons.mp hj).resolve_left hji) (by rw [hsite]; exact hb)
      rwa [hsite, run, timed, busyTime_congr timed hv] at judged
  · rw [h.strays (by rw [hci]; exact hs), hci, filtered, List.filter_cons_of_neg (by rw [hi]; exact Bool.false_ne_true)]
  · rw [hall i List.mem_cons_self] at hi
    cases hi

/-- Sites without repetition, named one after another. -/
theorem readyTaken_foldl {l : List Site} (hl : l.Nodup) (s : State) : ReadyTaken l s (l.foldl (fun s i => readySite i s) s) := by
  induction l generalizing s with
  | nil => exact readyTaken_nil s
  | cons i l ih =>
    obtain ⟨hn, hl⟩ := List.nodup_cons.mp hl
    rw [List.foldl_cons]
    cases hi : s.sites[i].busy with
    | false =>
      rw [readySite_idle hi]
      exact readyTaken_cons_idle hi (ih hl _)
    | true => exact readyTaken_cons_busy hn hi (ih hl _)

theorem readyTaken_readySites (mask : SiteMask) (s : State) :
    ReadyTaken (allSites.filter fun i => inMask mask i) s (readySites mask s) :=
  readyTaken_foldl ((List.nodup_finRange 16).filter _) s

/-! ## The record of a judged site -/

theorem busyFailRec_stats (u : Option Flight) (kind : FailKind) (v : Nat) (t : TimedStep) (x : SiteRec) :
    (busyFailRec u kind v t x).stats = x.stats := by
  obtain ⟨l, o, n, m, hf⟩ := failRec_eq u kind v none x
  unfold busyFailRec retireRec
  rw [hf]
  split
  · split <;> rfl
  · rfl

theorem judgeRec_stats (u : Option Flight) (t : TimedStep) (v : Nat) (x : SiteRec) :
    (judgeRec u t v x).stats = takeBusyTime v x.stats := by
  unfold judgeRec
  split
  · exact busyFailRec_stats _ _ _ _ _
  · rfl

/-- No failure is entered at a busy time that is long enough, or with no unit in flight (R89). -/
theorem sameAccount_judgeRec {u : Option Flight} {t : TimedStep} {v : Nat} (h : t.limits.low ≤ v ∨ u = none) (x : SiteRec) :
    SameAccount x (judgeRec u t v x) := by
  unfold judgeRec
  split
  next hv =>
    obtain rfl := h.resolve_left (Nat.not_le.mpr hv)
    unfold busyFailRec
    split
    · exact sameAccount_retireRec t.bin { x with stats := takeBusyTime v x.stats }
    · exact ⟨rfl, rfl, rfl, rfl, rfl, rfl⟩
  · exact ⟨rfl, rfl, rfl, rfl, rfl, rfl⟩

/-- A busy time below the low limit enters a FAST failure of the unit in flight (R89). -/
theorem failureEntered_judgeRec {u : Flight} {t : TimedStep} {v : Nat} (hv : v < t.limits.low) (x : SiteRec) :
    FailureEntered (failRecord u .fast v none) x (judgeRec (some u) t v x) := by
  unfold judgeRec
  rw [if_pos hv]
  exact failureEntered_busyFailRec u .fast v t { x with stats := takeBusyTime v x.stats }

/-- State and bin after a busy time is judged (R89, R92). -/
theorem judgeRec_standing (u : Option Flight) (t : TimedStep) (v : Nat) (x : SiteRec) :
    ((judgeRec u t v x).state, (judgeRec u t v x).bin) =
      if v < t.limits.low ∧ x.state = .active ∧ t.action = .retire then (.retired, t.bin) else (x.state, x.bin) := by
  unfold judgeRec
  by_cases hv : v < t.limits.low
  · rw [if_pos hv, busyFailRec_standing]
    simp only [hv, true_and]
  · rw [if_neg hv, if_neg fun h => hv h.1]

/-- The busy time of a running timer after n ticks, which stays below the high limit (R88, R91). -/
theorem busyTime_elapse {t : TimedStep} {n : Nat} {i : Site} {s : State} (ht : s.timers.timed = some t)
    (hr : s.timers.running[i] = true) : busyTime i (elapse n s) =
      if s.timers.values[i] + n < t.limits.high then s.timers.values[i] + n else t.limits.high - 1 := by
  have value : (elapse n s).timers.values[i] = timerAfter t.limits.high s.timers.values[i] n := by
    rw [elapse_values]
    simp only [ht, hr, if_true]
  unfold busyTime
  rw [show (elapse n s).timers.timed = some t from ht]
  show min _ _ = _
  rw [value]
  unfold timerAfter
  split <;> split <;> omega

/-- Settles O32: the named sites are taken one after another from the state in which the time has passed. -/
theorem readyJudged : Obligations.ReadyJudged := by
  intro mask n s flags hs
  have taken := readyTaken_readySites mask (elapse n s)
  have named : ∀ i : Site, i ∈ (allSites.filter fun i => inMask mask i) ↔ mask.getLsbD i = true := fun i => by
    simp only [List.mem_filter, mem_allSites, true_and]
    exact Iff.rfl
  refine ⟨readySites mask (elapse n s), rfl, ?_, by rw [taken.run]; rfl, fun i hi => ?_, fun hall => ?_, fun i t v ht hm hb hv => ?_⟩
  · refine (taken.strays hs).trans ?_
    rw [List.filter_filter]
    exact congrArg (fun l : List Site => min 65535 (s.hci.strays + l.length)) (List.filter_congr fun i _ => Bool.and_comm _ _)
  · exact (taken.left i (hi.imp_left fun h hi => by rw [(named i).mp hi] at h; cases h)).1
  · exact taken.idle fun i hi => hall i ((named i).mp hi)
  · obtain ⟨site, value, running⟩ := taken.judged i ((named i).mpr hm) hb
    have time : busyTime i (elapse n s) = v := (busyTime_elapse ht (flags i ▸ hb)).trans hv.symm
    have record : (readySites mask (elapse n s)).sites[i] = judgeRec s.run.inflight t v { s.sites[i] with busy := false } := by
      rw [site, time, show (elapse n s).timers.timed = some t from ht]
      rfl
    rw [record]
    refine ⟨(spares_judgeRec _ _ _ _).busy, running, value.trans time, judgeRec_stats _ _ _ _, fun h => sameAccount_judgeRec h { s.sites[i] with busy := false },
      fun f hlow hf => ?_, judgeRec_standing _ _ _ _⟩
    rw [hf]
    exact failureEntered_judgeRec hlow _

end Sys2Proof.Machine
end

section
/-! An overcurrent: the site trips and leaves the unit in flight (R17). -/

namespace Sys2Proof.Machine

/-- The card when an overcurrent has tripped a site and taken it out of the unit, before what is due then (R17). -/
def overcurrent (i : Site) (s : State) : State :=
  if inUnit i s then leaveUnit i (recordFailure i .alarm 0 none (cancelDrop i (tripSite i s))) else cancelDrop i (tripSite i s)

theorem exec_overcurrent {i : Site} {s : State} (h : s.sites[i].state ≠ .tripped) :
    exec (.alarmSiteOvercurrent i) s = .next (settle (overcurrent i s)) := congrArg Host.Outcome.next (if_neg h)

/-- A site record after its overcurrent: tripped, with an ALARM record of the unit that it was in. -/
def overcurrentRec (i : Site) (s : State) (x : SiteRec) : SiteRec :=
  if inUnit i s then failRec s.run.inflight .alarm 0 none (tripRec s.store.profile x) else tripRec s.store.profile x

theorem overcurrent_site {i : Site} {s : State} (h : s.sites[i].state ≠ .tripped) (j : Site) :
    (overcurrent i s).sites[j] = if j = i then overcurrentRec i s s.sites[i] else s.sites[j] := by
  have tripped := tripSite_site h
  unfold overcurrent overcurrentRec
  split
  · rw [recordFailure_eq]
    show (updSite i _ (cancelDrop i (tripSite i s))).sites[j] = _
    rw [updSite_get, show (cancelDrop i (tripSite i s)).run = s.run from (tripSite_others i s).1]
    show (if j = i then failRec _ _ _ _ (tripSite i s).sites[i] else (tripSite i s).sites[j]) = _
    rw [tripped i, tripped j, if_pos rfl]
    split <;> rfl
  · exact tripped j

/-- A tripped site's timer stands where it was (R5, R88). -/
theorem tripSite_timer {i : Site} {s : State} (h : s.sites[i].state ≠ .tripped) :
    (tripSite i s).timers.running[i] = false ∧ (tripSite i s).timers.values[i] = s.timers.values[i] := by
  unfold tripSite
  rw [if_neg h]
  dsimp only
  rw [stopTimerAt_running, stopTimerAt_values, if_pos rfl, if_pos rfl]
  exact ⟨rfl, rfl⟩

theorem overcurrent_timers (i : Site) (s : State) : (overcurrent i s).timers = (tripSite i s).timers := by
  unfold overcurrent
  rw [recordFailure_eq]
  split <;> rfl

/-- What the HCI holds after an overcurrent: the site out of the pending-drop mask and of an awaited COMPARE (R17). -/
theorem overcurrent_hci (i : Site) (s : State) :
    (overcurrent i s).hci.pendingDrop = dropSite s.hci.pendingDrop i ∧ (overcurrent i s).hci.held = s.hci.held
    ∧ (overcurrent i s).hci.strays = s.hci.strays
    ∧ (s.hci.outstanding = none → (overcurrent i s).hci.outstanding = none)
    ∧ (∀ o, s.hci.outstanding = some o → ∃ o', (overcurrent i s).hci.outstanding = some o') := by
  obtain ⟨_, hh⟩ := tripSite_others i s
  unfold overcurrent
  rw [recordFailure_eq]
  unfold leaveUnit cancelDrop updSite
  dsimp only
  rw [hh]
  split
  · exact ⟨rfl, rfl, rfl, fun ho => by rw [ho]; rfl, fun o ho => by rw [ho]; exact ⟨_, rfl⟩⟩
  · exact ⟨rfl, rfl, rfl, id, fun o ho => ⟨o, ho⟩⟩

/-- The unit in flight after an overcurrent: without the site (R17). -/
theorem overcurrent_inflight (i : Site) (s : State) :
    (s.run.inflight = none → (overcurrent i s).run.inflight = none)
    ∧ (∀ f, s.run.inflight = some f → ∃ f', (overcurrent i s).run.inflight = some f' ∧ f'.kind = f.kind
      ∧ ∀ j : Site, f'.mask.getLsbD j = (f.mask.getLsbD j && j != i)) := by
  obtain ⟨hr, _⟩ := tripSite_others i s
  unfold overcurrent
  rw [recordFailure_eq]
  unfold leaveUnit cancelDrop updSite
  dsimp only
  rw [hr]
  split
  · exact ⟨fun hf => by rw [hf]; rfl, fun f hf => ⟨{ f with mask := dropSite f.mask i }, by rw [hf]; rfl, rfl, inMask_dropSite f.mask i⟩⟩
  next hin =>
    refine ⟨id, fun f hf => ⟨f, hf, rfl, fun j => ?_⟩⟩
    unfold inUnit at hin
    rw [hf] at hin
    have out : f.mask.getLsbD i = false := Bool.eq_false_iff.mpr hin
    by_cases hj : j = i
    · rw [hj, out]; rfl
    · rw [bne_iff_ne.mpr hj, Bool.and_true]

/-- The record of a site after its overcurrent: TRIPPED, not busy, with its bin or the trip bin. -/
theorem overcurrentRec_standing (i : Site) (s : State) (x : SiteRec) :
    (overcurrentRec i s x).state = .tripped ∧ (overcurrentRec i s x).busy = false
    ∧ (overcurrentRec i s x).bin = (tripRec s.store.profile x).bin := by
  unfold overcurrentRec
  split
  · obtain ⟨l, o, n, m, hf⟩ := failRec_eq s.run.inflight .alarm 0 none (tripRec s.store.profile x)
    rw [hf]
    exact ⟨rfl, rfl, rfl⟩
  · exact ⟨rfl, rfl, rfl⟩

/-- Settles O33: the overcurrent's own part is read off `overcurrent`, and settling leaves the site as it is. -/
theorem siteTripped : Obligations.SiteTripped := by
  intro i s
  refine ⟨fun h => congrArg Host.Outcome.next (if_pos h), fun h => ?_, fun h => ?_⟩
  all_goals
    have site := overcurrent_site h
    have here : (overcurrent i s).sites[i] = overcurrentRec i s s.sites[i] := by rw [site, if_pos rfl]
    have others : ∀ j : Site, j ≠ i → (overcurrent i s).sites[j] = s.sites[j] := fun j hj => by rw [site, if_neg hj]
    obtain ⟨state, busy, bin⟩ := overcurrentRec_standing i s s.sites[i]
    rw [← here] at state busy bin
  · obtain ⟨none_left, some_left⟩ := overcurrent_inflight i s
    exact ⟨_, exec_overcurrent h, busy, fun j hj => by rw [others j hj], none_left, some_left⟩
  · obtain ⟨running, values⟩ := tripSite_timer h
    rw [← overcurrent_timers] at running values
    obtain ⟨pending, held, strays, idle, awaiting⟩ := overcurrent_hci i s
    have unnamed : inMask (overcurrent i s).hci.pendingDrop i = false := by
      rw [pending, inMask_dropSite, bne_self_eq_false, Bool.and_false]
    have leaves := leaves_settle (overcurrent i s)
    have later := moves_settle (overcurrent i s)
    obtain ⟨state', bin'⟩ := leaves.site i (by rw [state]; exact nofun)
    have account := leaves.account i
    rw [here] at account
    refine ⟨_, exec_overcurrent h, state'.trans state, Bool.eq_false_iff.mpr fun hb => ?_, later.running i running,
      (congrArg (·[i]) leaves.values).trans values, leaves.strays.trans strays, later.pendingDrop i unnamed, fun o ho j hj => ?_,
      fun m d ho hh hs => ?_, fun hb => ?_, fun pr hb hpr => ?_, fun u hu hm => ?_, fun hout => ?_, fun j hj => ?_⟩
    · rw [leaves.busy i hb] at busy; cases busy
    · obtain ⟨o', ho'⟩ := awaiting o ho
      rw [(later.awaiting ho').2, pending]
      exact (inMask_dropSite _ _ _).trans (by rw [bne_iff_ne.mpr hj, Bool.and_true]; rfl)
    · have free : DropFree i (overcurrent i s).hci :=
        ⟨unnamed, fun m hm => (nomatch hh.symm.trans (held.symm.trans hm)),
          fun o m ho' => (nomatch (idle ho).symm.trans ho')⟩
      exact (later.dropFree i free).2.2 _ m hs rfl
    · rw [bin', bin]
      unfold tripRec
      rcases hb with hb | hb
      · cases s.store.profile with
        | none => rfl
        | some pr => exact if_neg hb
      · rw [hb]
    · rw [bin', bin]
      unfold tripRec
      rw [hpr]
      exact if_pos hb
    · refine FailureEntered.of_same ?_ account
      unfold overcurrentRec inUnit
      rw [hu]
      refine (congrArg (FailureEntered _ _) (if_pos (show inMask u.mask i = true from hm))).mpr ?_
      exact failureEntered_failRec u .alarm 0 none (tripRec s.store.profile s.sites[i])
    · have out : ¬ inUnit i s = true := by
        unfold inUnit
        cases hu : s.run.inflight with
        | none => exact Bool.false_ne_true
        | some u => exact Bool.eq_false_iff.mp (hout u hu)
      unfold overcurrentRec at account
      rw [if_neg out] at account
      exact account
    · have same := leaves.account j
      rwa [others j hj] at same

end Sys2Proof.Machine
end

section
/-! RESULT: which entry is handed on for each site, and what it does there (R13, R106, R107). -/

namespace Sys2Proof.Machine

/-! ## A COMPARE failure at one record -/

theorem compareTotals_others (u : Flight) (e : ResultEntry) (x : SiteRec) :
    (compareTotals u e x).badBlocks = x.badBlocks ∧ (compareTotals u e x).state = x.state ∧ (compareTotals u e x).bin = x.bin
    ∧ (compareTotals u e x).failBits = min 4294967295 (x.failBits + e.failBits.toNat) := by
  obtain ⟨l, o, n, m, hf⟩ := failRec_eq (some u) .compare e.failBits.toNat (some e.offset) x
  unfold compareTotals
  rw [hf]
  exact ⟨rfl, rfl, rfl, rfl⟩

theorem failureEntered_compareTotals (u : Flight) (e : ResultEntry) (x : SiteRec) :
    FailureEntered (failRecord u .compare e.failBits.toNat (some e.offset)) x (compareTotals u e x) :=
  failureEntered_failRec u .compare e.failBits.toNat (some e.offset) x

/-- Log, overflow and totals do not change when a bad block is entered. -/
theorem badBlockRec_others (a bin k : Nat) (x : SiteRec) :
    (badBlockRec a bin k x).log = x.log ∧ (badBlockRec a bin k x).overflow = x.overflow
    ∧ (badBlockRec a bin k x).failUnits = x.failUnits ∧ (badBlockRec a bin k x).failBits = x.failBits
    ∧ (badBlockRec a bin k x).badBlocks = (enterBlock a k x.badBlocks).1 := by
  unfold badBlockRec retireRec
  split
  · split <;> exact ⟨rfl, rfl, rfl, rfl, rfl⟩
  · exact ⟨rfl, rfl, rfl, rfl, rfl⟩

/-- State and bin after a bad block is entered (R107). -/
theorem badBlockRec_standing (a bin k : Nat) (x : SiteRec) :
    ((badBlockRec a bin k x).state, (badBlockRec a bin k x).bin) =
      if (enterBlock a k x.badBlocks).2 = true ∧ x.state = .active then (.retired, bin) else (x.state, x.bin) := by
  unfold badBlockRec retireRec
  by_cases he : (enterBlock a k x.badBlocks).2 = true
  · by_cases ha : x.state = .active <;> simp [he, ha]
  · simp [he]

theorem compareRec_others (pr : Profile) (bin : Nat) (u : Flight) (e : ResultEntry) (x : SiteRec) :
    FailureEntered (failRecord u .compare e.failBits.toNat (some e.offset)) x (compareRec pr bin u e x)
    ∧ (compareRec pr bin u e x).failBits = min 4294967295 (x.failBits + e.failBits.toNat) := by
  obtain ⟨log, overflow, units⟩ := failureEntered_compareTotals u e x
  obtain ⟨_, _, _, bits⟩ := compareTotals_others u e x
  unfold compareRec
  split
  · exact ⟨⟨log, overflow, units⟩, bits⟩
  next k _ =>
    obtain ⟨hl, ho, hu, hb, _⟩ := badBlockRec_others pr.allowance bin k (compareTotals u e x)
    exact ⟨⟨hl.trans log, ho.trans overflow, hu.trans units⟩, hb.trans bits⟩

/-- Bad-block set, state and bin after a COMPARE failure in a block (R107). -/
theorem compareRec_block {pr : Profile} {u : Flight} {k : Nat} (h : blockOf pr u.granule u.unit = some k) (bin : Nat) (e : ResultEntry)
    (x : SiteRec) : (compareRec pr bin u e x).badBlocks = (enterBlock pr.allowance k x.badBlocks).1
    ∧ ((compareRec pr bin u e x).state, (compareRec pr bin u e x).bin) =
      if (enterBlock pr.allowance k x.badBlocks).2 = true ∧ x.state = .active then (.retired, bin) else (x.state, x.bin) := by
  obtain ⟨blocks, state, hbin, _⟩ := compareTotals_others u e x
  have standing := badBlockRec_standing pr.allowance bin k (compareTotals u e x)
  obtain ⟨_, _, _, _, entered⟩ := badBlockRec_others pr.allowance bin k (compareTotals u e x)
  unfold compareRec
  rw [h]
  rw [blocks] at standing entered
  rw [state, hbin] at standing
  exact ⟨entered, standing⟩

theorem enterBlock_known {k : Nat} {set : List Nat} (h : k ∈ set) (a : Nat) : enterBlock a k set = (set, false) :=
  if_pos (List.contains_iff_mem.mpr h)

theorem enterBlock_new {k : Nat} {set : List Nat} (h : k ∉ set) (hl : set.length < 64) (a : Nat) :
    enterBlock a k set = (insertBlock k set, decide (a < set.length + 1)) :=
  (if_neg (mt List.contains_iff_mem.mp h)).trans (if_pos hl)

theorem enterBlock_full {k : Nat} {set : List Nat} (h : k ∉ set) (hl : 64 ≤ set.length) (a : Nat) : enterBlock a k set = (set, true) :=
  (if_neg (mt List.contains_iff_mem.mp h)).trans (if_neg (Nat.not_lt.mpr hl))

/-! ## The entry of each site -/

/-- The entry that is handed on for a site when earlier entries have named the sites of `named`. -/
def handedFrom (mask : SiteMask) (named : List Site) (es : List ResultEntry) (s : State) (i : Site) : Option ResultEntry :=
  if named.contains i then none else handedEntry mask es s i

/-- An entry is handed on: its site is in the mask and not TRIPPED, no earlier entry has named it, and its count is not 0 (R13). -/
def handsOn (mask : SiteMask) (named : List Site) (e : ResultEntry) (s : State) : Bool :=
  inMask mask e.site && s.sites[e.site].state != .tripped && !named.contains e.site && e.failBits != 0

theorem handedFrom_named {mask : SiteMask} {named : List Site} {es : List ResultEntry} {s : State} {i : Site} (h : i ∈ named) :
    handedFrom mask named es s i = none := if_pos (List.contains_iff_mem.mpr h)

/-- The first entry decides its own site and leaves the others to the rest. -/
theorem handedFrom_cons (mask : SiteMask) (named : List Site) (e : ResultEntry) (es : List ResultEntry) (s : State) (i : Site) :
    handedFrom mask named (e :: es) s i =
      if i = e.site then (if handsOn mask named e s = true then some e else none) else handedFrom mask (e.site :: named) es s i := by
  unfold handedFrom handedEntry handsOn
  rw [List.find?_cons, List.contains_cons]
  by_cases hi : i = e.site
  · subst hi
    rw [if_pos rfl, beq_self_eq_true]
    by_cases hn : e.site ∈ named
    · simp [hn]
    · simp [hn, inMask, and_assoc]
  · rw [if_neg hi, show (e.site == i) = false from beq_eq_false_iff_ne.mpr (Ne.symm hi), show (i == e.site) = false from beq_eq_false_iff_ne.mpr hi]
    rfl

/-- Which entry is handed on for a site depends on whether it is TRIPPED alone. -/
theorem handedFrom_congr {mask : SiteMask} {named : List Site} {es : List ResultEntry} {s t : State} {i : Site}
    (h : t.sites[i].state = .tripped ↔ s.sites[i].state = .tripped) : handedFrom mask named es t i = handedFrom mask named es s i := by
  unfold handedFrom handedEntry
  simp only [ne_eq, h]

/-- The sites for which an entry is handed on. -/
def handedSites (mask : SiteMask) (named : List Site) (es : List ResultEntry) (s : State) : List Site :=
  allSites.filter fun i => (handedFrom mask named es s i).isSome

theorem handedSites_nil (mask : SiteMask) (named : List Site) (s : State) : handedSites mask named [] s = [] := by
  refine List.filter_eq_nil_iff.mpr fun i _ => ?_
  unfold handedFrom handedEntry
  split <;> exact Bool.false_ne_true

/-- An entry that is handed on adds its site; another adds none. -/
theorem length_handedSites_cons (mask : SiteMask) (named : List Site) (e : ResultEntry) (es : List ResultEntry) (s : State) :
    (handedSites mask named (e :: es) s).length =
      (handedSites mask (e.site :: named) es s).length + if handsOn mask named e s = true then 1 else 0 := by
  have unnamed : e.site ∉ handedSites mask (e.site :: named) es s := fun h => by
    have some := (List.mem_filter.mp h).2
    rw [handedFrom_named List.mem_cons_self] at some
    cases some
  have nodup : ∀ (n : List Site) (l : List ResultEntry), (handedSites mask n l s).Nodup := fun n l => (List.nodup_finRange 16).filter _
  split
  next hg =>
    refine List.Perm.length_eq (l₂ := e.site :: handedSites mask (e.site :: named) es s) ?_
    refine (List.perm_ext_iff_of_nodup (nodup _ _) (List.nodup_cons.mpr ⟨unnamed, nodup _ _⟩)).mpr fun i => ?_
    unfold handedSites
    rw [List.mem_cons, List.mem_filter, List.mem_filter, handedFrom_cons]
    by_cases hi : i = e.site <;> simp [hi, hg, mem_allSites]
  next hg =>
    refine congrArg List.length (List.filter_congr fun i _ => ?_)
    rw [handedFrom_cons]
    by_cases hi : i = e.site
    · rw [if_pos hi, if_neg hg, hi, handedFrom_named List.mem_cons_self]
    · rw [if_neg hi]

theorem length_handedSites_le (mask : SiteMask) (named : List Site) (es : List ResultEntry) (s : State) :
    (handedSites mask named es s).length ≤ es.length := by
  induction es generalizing named with
  | nil => rw [handedSites_nil]; exact Nat.le_refl 0
  | cons e es ih =>
    rw [length_handedSites_cons, List.length_cons]
    refine Nat.add_le_add (ih _) ?_
    split <;> decide

/-! ## The entries, one after another -/

/-- What the entries of a RESULT make of a state in which the unit `u` is in flight. -/
structure ResultsTaken (mask : SiteMask) (named : List Site) (u : Flight) (es : List ResultEntry) (s t : State) : Prop where
  run : t.run = s.run
  outstanding : t.hci.outstanding = s.hci.outstanding
  left : ∀ i : Site, handedFrom mask named es s i = none → t.sites[i] = s.sites[i]
  handed : ∀ (i : Site) (e : ResultEntry), handedFrom mask named es s i = some e →
    t.sites[i] = compareRec s.profile (verifyBin s) u e s.sites[i]
  strays : s.hci.strays ≤ 65535 → t.hci.strays = min 65535 (s.hci.strays + (es.length - (handedSites mask named es s).length))

/-- A COMPARE failure trips no site and heals none. -/
theorem compareRec_tripped (pr : Profile) (bin : Nat) (u : Flight) (e : ResultEntry) (x : SiteRec) :
    (compareRec pr bin u e x).state = .tripped ↔ x.state = .tripped := by
  obtain ⟨_, still, active⟩ := spares_compareRec pr bin u e x
  by_cases ha : x.state = .active
  · obtain ⟨h, _⟩ | h := active ha <;> simp [h, ha]
  · rw [(still ha).1]

/-- The entries after one that is handed on. -/
theorem resultsTaken_cons_handed {mask : SiteMask} {named : List Site} {u : Flight} {e : ResultEntry} {es : List ResultEntry} {s t : State}
    (hg : handsOn mask named e s = true)
    (h : ResultsTaken mask (e.site :: named) u es (updSite e.site (compareRec s.profile (verifyBin s) u e) s) t) :
    ResultsTaken mask named u (e :: es) s t := by
  have site : ∀ i : Site, (updSite e.site (compareRec s.profile (verifyBin s) u e) s).sites[i] =
      if i = e.site then compareRec s.profile (verifyBin s) u e s.sites[e.site] else s.sites[i] := fun i => updSite_get _ _ _ _
  have same : ∀ i : Site, handedFrom mask (e.site :: named) es (updSite e.site (compareRec s.profile (verifyBin s) u e) s) i =
      handedFrom mask (e.site :: named) es s i := fun i => handedFrom_congr (by
    rw [site]
    split
    next hi => subst hi; exact compareRec_tripped _ _ _ _ _
    · exact Iff.rfl)
  refine ⟨h.run, h.outstanding, fun i hi => ?_, fun i f hi => ?_, fun hs => (h.strays hs).trans ?_⟩
  · rw [handedFrom_cons] at hi
    by_cases hie : i = e.site
    · rw [if_pos hie, if_pos hg] at hi; cases hi
    · rw [if_neg hie, ← same] at hi
      rw [h.left i hi, site, if_neg hie]
  · rw [handedFrom_cons] at hi
    by_cases hie : i = e.site
    · rw [if_pos hie, if_pos hg] at hi
      cases hi
      rw [h.left i (by rw [same, hie]; exact handedFrom_named List.mem_cons_self), site, if_pos hie, hie]
    · rw [if_neg hie, ← same] at hi
      rw [h.handed i f hi, site, if_neg hie]
      rfl
  · have sites : handedSites mask (e.site :: named) es (updSite e.site (compareRec s.profile (verifyBin s) u e) s) =
        handedSites mask (e.site :: named) es s := List.filter_congr fun i _ => by rw [same]
    rw [sites, length_handedSites_cons, if_pos hg, List.length_cons, Nat.add_sub_add_right]
    rfl

/-- The entries after one that counts a stray. -/
theorem resultsTaken_cons_stray {mask : SiteMask} {named : List Site} {u : Flight} {e : ResultEntry} {es : List ResultEntry} {s t : State}
    (hg : ¬ handsOn mask named e s = true) (h : ResultsTaken mask (e.site :: named) u es (addStrays 1 s) t) :
    ResultsTaken mask named u (e :: es) s t := by
  have next : ∀ i : Site, handedFrom mask named (e :: es) s i = handedFrom mask (e.site :: named) es (addStrays 1 s) i := fun i => by
    rw [handedFrom_cons]
    by_cases hi : i = e.site
    · rw [if_pos hi, if_neg hg, hi, handedFrom_named List.mem_cons_self]
    · rw [if_neg hi]; rfl
  refine ⟨h.run, h.outstanding, fun i hi => h.left i (next i ▸ hi), fun i f hi => h.handed i f (next i ▸ hi), fun hs => ?_⟩
  have fewer := length_handedSites_le mask (e.site :: named) es s
  have strays : t.hci.strays = min 65535 (min 65535 (s.hci.strays + 1) + (es.length - (handedSites mask (e.site :: named) es s).length)) :=
    h.strays (Nat.min_le_left _ _)
  rw [strays, length_handedSites_cons, if_neg hg, List.length_cons]
  omega

theorem resultEntries_cons (mask : SiteMask) (named : List Site) (e : ResultEntry) (es : List ResultEntry) (s : State) :
    resultEntries mask named (e :: es) s =
      resultEntries mask (e.site :: named) es (if handsOn mask named e s = true then compareFailure e s else addStrays 1 s) := rfl

/-- The entries of a RESULT, with the unit of the COMPARE in flight. -/
theorem resultsTaken (mask : SiteMask) (named : List Site) {u : Flight} (es : List ResultEntry) {s : State} (hu : s.run.inflight = some u) :
    ResultsTaken mask named u es s (resultEntries mask named es s) := by
  induction es generalizing named s with
  | nil =>
    have none_handed : ∀ i : Site, handedFrom mask named [] s i = none := fun i => by
      unfold handedFrom handedEntry
      split <;> rfl
    refine ⟨rfl, rfl, fun _ _ => rfl, fun i e h => (nomatch (none_handed i).symm.trans h), fun hs => ?_⟩
    rw [handedSites_nil]
    exact (Nat.min_eq_right hs).symm
  | cons e es ih =>
    rw [resultEntries_cons]
    by_cases hg : handsOn mask named e s = true
    · rw [if_pos hg, compareFailure_eq hu]
      exact resultsTaken_cons_handed hg (ih _ hu)
    · rw [if_neg hg]
      exact resultsTaken_cons_stray hg (ih _ hu)

/-! ## A RESULT taken -/

/-- An awaited RESULT frees the HCI, hands its entries on and resolves the unit. -/
theorem exec_result {g : Granule} {size un d : Nat} {mask : SiteMask} {data : DataPart} {s : State} (es : List ResultEntry)
    (ho : s.hci.outstanding = some { request := .compare g size un mask data, deadline := d }) :
    exec (.result es) s = .next (settle (unitResolved (resultEntries mask [] es (hciIdle s)))) := by
  refine congrArg Host.Outcome.next ?_
  show takeResult es s = _
  unfold takeResult
  rw [ho]

/-- What is seen of a site with a COMPARE failure once the card has settled: its bad-block set, and whether it is retired (R107). -/
theorem settled_block {pr : Profile} {u : Flight} {k bin : Nat} {e : ResultEntry} {i : Site} {x : SiteRec} {w : State}
    (hk : blockOf pr u.granule u.unit = some k) (hw : w.sites[i] = compareRec pr bin u e x) :
    (settle w).sites[i].badBlocks = (enterBlock pr.allowance k x.badBlocks).1
    ∧ (x.state = .active → if (enterBlock pr.allowance k x.badBlocks).2 = true
        then (settle w).sites[i].state = .retired ∧ (settle w).sites[i].bin = bin else (settle w).sites[i].state ≠ .retired) := by
  have leaves := leaves_settle w
  obtain ⟨blocks, standing⟩ := compareRec_block hk bin e x
  rw [← hw] at blocks standing
  obtain ⟨_, _, _, _, _, same⟩ := leaves.account i
  refine ⟨same.symm.trans blocks, fun ha => ?_⟩
  split
  next hr =>
    rw [if_pos ⟨hr, ha⟩] at standing
    obtain ⟨state, hbin⟩ := Prod.mk.inj standing
    obtain ⟨state', hbin'⟩ := leaves.site i (by rw [state]; exact nofun)
    exact ⟨state'.trans state, hbin'.trans hbin⟩
  next hr =>
    rw [if_neg fun h => hr h.1] at standing
    exact (moves_settle w).not_retired i (by rw [(Prod.mk.inj standing).1, ha]; exact nofun)

/-- Settles O31: each site's own entry decides what becomes of it. -/
theorem resultTaken : Obligations.ResultTaken := by
  intro g size un mask data d u es s ho hu hs
  refine ⟨exec_result [] ho, _, exec_result es ho, ?_⟩
  have taken : ResultsTaken mask [] u es (hciIdle s) (resultEntries mask [] es (hciIdle s)) := resultsTaken mask [] es hu
  have leaves := leaves_settle (unitResolved (resultEntries mask [] es (hciIdle s)))
  refine ⟨⟨_, rfl, rfl, taken.outstanding⟩, leaves.strays.trans (taken.strays hs), fun i hi => ?_, fun i e hi => ?_⟩
  · have account := leaves.account i
    rwa [show (unitResolved (resultEntries mask [] es (hciIdle s))).sites[i] = s.sites[i] from taken.left i hi] at account
  · have record : (unitResolved (resultEntries mask [] es (hciIdle s))).sites[i] = compareRec s.profile (verifyBin s) u e s.sites[i] :=
      taken.handed i e hi
    obtain ⟨entered, bits⟩ := compareRec_others s.profile (verifyBin s) u e s.sites[i]
    rw [← record] at entered bits
    have account := leaves.account i
    obtain ⟨_, _, _, _, sameBits, _⟩ := account
    refine ⟨entered.of_same (leaves.account i), sameBits.symm.trans bits, fun k hk => ⟨fun hm => ?_, fun hm hl => ?_, fun hm hl => ?_⟩⟩
    all_goals obtain ⟨blocks, standing⟩ := settled_block hk record
    · rw [enterBlock_known hm] at blocks standing
      exact ⟨blocks, fun ha => by simpa using standing ha⟩
    · rw [enterBlock_new hm hl] at blocks standing
      refine ⟨fun j => by rw [blocks]; exact mem_insertBlock k j _, fun ha => ?_⟩
      simpa only [decide_eq_true_eq] using standing ha
    · rw [enterBlock_full hm hl] at blocks standing
      exact ⟨blocks, fun ha => by simpa using standing ha⟩

end Sys2Proof.Machine
end

section
/-! Blocks completed one after another: what the window then reads, and the attention count (R183, R185, R188). -/

namespace Sys2Proof.Machine

/-! ## What the window reads -/

/-- One byte of the window after some blocks have been completed, each with its response. -/
def completedByte : List (Block × Response) → Nat → Byte → Byte
  | [], _, v => v
  | p :: l, x, v =>
    completedByte l x (if x = p.1.offset + 2 ∧ inArea (p.1.offset + 2) = true then 0
      else if x = p.1.offset + 1 ∧ inArea (p.1.offset + 1) = true then p.2.code else v)

theorem completedByte_append (l l' : List (Block × Response)) (x : Nat) (v : Byte) :
    completedByte (l ++ l') x v = completedByte l' x (completedByte l x v) := by
  induction l generalizing v with
  | nil => rfl
  | cons p l ih => exact ih _

/-- A byte that is neither the response code nor the done flag of a completed block stands. -/
theorem completedByte_of_ne {l : List (Block × Response)} {x : Nat} (h : ∀ p ∈ l, x ≠ p.1.offset + 1 ∧ x ≠ p.1.offset + 2) (v : Byte) :
    completedByte l x v = v := by
  induction l generalizing v with
  | nil => rfl
  | cons p l ih =>
    obtain ⟨code, flag⟩ := h p List.mem_cons_self
    refine (ih (fun q hq => h q (List.mem_cons_of_mem p hq)) _).trans ?_
    rw [if_neg fun hx => flag hx.1, if_neg fun hx => code hx.1]

/-- Blocks at offsets where a valid post can put them (R178). -/
def Posted (l : List (Block × Response)) : Prop := ∀ p ∈ l, postValid p.1.offset = true

theorem postValid_iff (o : Nat) : postValid o = true ↔ o % 64 = 0 ∧ 0x100 ≤ o ∧ o ≤ 0xFC0 := by
  unfold postValid
  rw [Bool.and_eq_true, beq_iff_eq, decide_eq_true_eq]

theorem inArea_iff (a : Nat) : inArea a = true ↔ 0x100 ≤ a ∧ a < 0x1000 := decide_eq_true_iff

/-- The done flag of a completed block is 0, and stays so (R183). -/
theorem completedByte_flag {l : List (Block × Response)} {o : Nat} {v : Byte} (hl : Posted l) (ho : postValid o = true)
    (h : v = 0 ∨ ∃ p ∈ l, p.1.offset = o) : completedByte l (o + 2) v = 0 := by
  obtain ⟨align, low, high⟩ := (postValid_iff o).mp ho
  have area : inArea (o + 2) = true := (inArea_iff _).mpr ⟨by omega, by omega⟩
  induction l generalizing v with
  | nil => exact h.elim id fun ⟨p, hp, _⟩ => absurd hp List.not_mem_nil
  | cons p l ih =>
    obtain ⟨align', _, _⟩ := (postValid_iff _).mp (hl p List.mem_cons_self)
    refine ih (fun q hq => hl q (List.mem_cons_of_mem p hq)) ?_
    by_cases hp : p.1.offset = o
    · exact .inl (if_pos ⟨by omega, hp ▸ area⟩)
    · rw [if_neg fun hx => hp (by omega), if_neg fun hx => by omega]
      refine h.imp_right fun ⟨q, hq, hqo⟩ => ⟨q, (List.mem_cons.mp hq).resolve_left fun he => hp (he ▸ hqo), hqo⟩

/-- The response code at an offset, when every block completed there has the same response (R183). -/
theorem completedByte_code {l : List (Block × Response)} {o : Nat} {r : Response} {v : Byte} (hl : Posted l) (ho : postValid o = true)
    (all : ∀ p ∈ l, p.1.offset = o → p.2 = r) (h : v = r.code ∨ ∃ p ∈ l, p.1.offset = o) : completedByte l (o + 1) v = r.code := by
  obtain ⟨align, low, high⟩ := (postValid_iff o).mp ho
  have area : inArea (o + 1) = true := (inArea_iff _).mpr ⟨by omega, by omega⟩
  induction l generalizing v with
  | nil => exact h.elim id fun ⟨p, hp, _⟩ => absurd hp List.not_mem_nil
  | cons p l ih =>
    obtain ⟨align', _, _⟩ := (postValid_iff _).mp (hl p List.mem_cons_self)
    refine ih (fun q hq => hl q (List.mem_cons_of_mem p hq)) (fun q hq => all q (List.mem_cons_of_mem p hq)) ?_
    rw [if_neg fun hx => by omega]
    by_cases hp : p.1.offset = o
    · exact .inl ((if_pos ⟨by omega, hp ▸ area⟩).trans (by rw [all p List.mem_cons_self hp]))
    · rw [if_neg fun hx => hp (by omega)]
      refine h.imp_right fun ⟨q, hq, hqo⟩ => ⟨q, (List.mem_cons.mp hq).resolve_left fun he => hp (he ▸ hqo), hqo⟩

/-! ## Completed blocks -/

theorem noticed_append (n : Nat) (l l' : List Block) : noticed n (l ++ l') = noticed (noticed n l) l' := by
  unfold noticed
  rw [List.filter_append, List.length_append]
  dsimp only
  split <;> split <;> split <;> omega

theorem noticed_singleton (n : Nat) (b : Block) : noticed n [b] = if b.notify = 0 then n else satAdd 65535 n 1 := by
  unfold noticed
  by_cases hb : b.notify = 0
  · rw [List.filter_cons_of_neg (by rw [hb]; decide), if_pos hb]
    rfl
  · rw [List.filter_cons_of_pos (p := fun x : Block => x.notify != 0) (bne_iff_ne.mpr hb), if_neg hb]
    rfl

/-- The window and the attention count of `t` are those of `s` once some blocks have been completed, each with its response. -/
structure Completed (l : List (Block × Response)) (s t : State) : Prop where
  attention : t.cwc.attention = noticed s.cwc.attention (l.map Prod.fst)
  wf : Memory.wf s.cwc.mem = true → Memory.wf t.cwc.mem = true
  read : Memory.wf s.cwc.mem = true → ∀ x, readArea t x = completedByte l x (readArea s x)

theorem Completed.trans {l l' : List (Block × Response)} {s t u : State} (h : Completed l s t) (h' : Completed l' t u) :
    Completed (l ++ l') s u where
  attention := by rw [h'.attention, h.attention, List.map_append, noticed_append]
  wf hs := h'.wf (h.wf hs)
  read hs x := by rw [h'.read (h.wf hs), h.read hs, completedByte_append]

/-- Window and attention count the same: no block completed. -/
theorem completed_nil {s t : State} (hm : t.cwc.mem = s.cwc.mem) (ha : t.cwc.attention = s.cwc.attention) : Completed [] s t where
  attention := ha
  wf hs := hm ▸ hs
  read _ x := congrArg (memRead · x) hm

/-- One block completed. -/
theorem completed_respond (b : Block) (r : Response) (s : State) : Completed [(b, r)] s (respond b r s) where
  attention := by
    rw [respond_eq]
    exact (noticed_singleton _ b).symm
  wf := respond_wf b r
  read hs x := by
    show memRead _ x = _
    rw [respond_mem]
    show readArea _ x = _
    rw [readArea_writeArea _ _ _ (writeArea_wf _ _ hs), readArea_writeArea _ _ _ hs]
    rfl

/-- One block completed after a change of the card that leaves window and attention count. -/
theorem completed_respond_after (b : Block) (r : Response) {s t : State} (hm : t.cwc.mem = s.cwc.mem)
    (ha : t.cwc.attention = s.cwc.attention) : Completed [(b, r)] s (respond b r t) :=
  (completed_nil hm ha).trans (completed_respond b r t)

theorem completed_respondAll (r : Response) (bs : List Block) (s : State) : Completed (bs.map (·, r)) s (respondAll r bs s) := by
  induction bs generalizing s with
  | nil => exact completed_nil rfl rfl
  | cons b bs ih => exact (completed_respond b r s).trans (ih (respond b r s))

theorem completed_finishRun (r : Response) (s : State) : Completed (s.cwc.outRun.toList.map (·, r)) s (finishRun r s) := by
  unfold finishRun
  cases s.cwc.outRun with
  | none => exact completed_nil rfl rfl
  | some b => exact completed_respond_after b r rfl rfl

theorem completed_finishAbort (r : Response) (s : State) : Completed (s.cwc.outAbort.toList.map (·, r)) s (finishAbort r s) := by
  unfold finishAbort
  cases s.cwc.outAbort with
  | none => exact completed_nil rfl rfl
  | some b => exact completed_respond_after b r rfl rfl

theorem completed_finishPause (r : Response) (s : State) : Completed (s.cwc.outPause.toList.map (·, r)) s (finishPause r s) := by
  unfold finishPause
  cases s.cwc.outPause with
  | none => exact completed_nil rfl rfl
  | some b => exact completed_respond_after b r rfl rfl

/-! ## The outstanding blocks -/

/-- The three blocks outstanding, once RUN's, ABORT's or PAUSE's has been completed. -/
theorem finishRun_outs (r : Response) (s : State) : (finishRun r s).cwc.outRun = none
    ∧ (finishRun r s).cwc.outAbort = s.cwc.outAbort ∧ (finishRun r s).cwc.outPause = s.cwc.outPause := by
  unfold finishRun
  cases h : s.cwc.outRun with
  | none => exact ⟨h, rfl, rfl⟩
  | some b => dsimp only; rw [respond_eq]; exact ⟨rfl, rfl, rfl⟩

theorem finishAbort_outs (r : Response) (s : State) : (finishAbort r s).cwc.outRun = s.cwc.outRun
    ∧ (finishAbort r s).cwc.outAbort = none ∧ (finishAbort r s).cwc.outPause = s.cwc.outPause := by
  unfold finishAbort
  cases h : s.cwc.outAbort with
  | none => exact ⟨rfl, h, rfl⟩
  | some b => dsimp only; rw [respond_eq]; exact ⟨rfl, rfl, rfl⟩

theorem finishPause_outs (r : Response) (s : State) : (finishPause r s).cwc.outRun = s.cwc.outRun
    ∧ (finishPause r s).cwc.outAbort = s.cwc.outAbort ∧ (finishPause r s).cwc.outPause = none := by
  unfold finishPause
  cases h : s.cwc.outPause with
  | none => exact ⟨rfl, rfl, h⟩
  | some b => dsimp only; rw [respond_eq]; exact ⟨rfl, rfl, rfl⟩

/-- The responses of RUN, ABORT and PAUSE when a run has ended under a cause (R75, R188). -/
def endResponses (cause : EndCause) : Response × Response × Response :=
  if cause = .cardReset then (.cardReset, .cardReset, .cardReset) else (.runEnd cause, .ok, .runEnded)

/-- The outstanding blocks with the responses that the end of a run gives them, in the order of R75. -/
def endedBlocks (cause : EndCause) (c : Cwc) : List (Block × Response) :=
  c.outRun.toList.map (·, (endResponses cause).1) ++ c.outAbort.toList.map (·, (endResponses cause).2.1)
    ++ c.outPause.toList.map (·, (endResponses cause).2.2)

theorem finishBlocks_eq (cause : EndCause) (s : State) : finishBlocks cause s =
    finishPause (endResponses cause).2.2 (finishAbort (endResponses cause).2.1 (finishRun (endResponses cause).1 s)) := by
  unfold finishBlocks endResponses
  split <;> rfl

theorem finishBlocks_outs (cause : EndCause) (s : State) : (finishBlocks cause s).cwc.outRun = none
    ∧ (finishBlocks cause s).cwc.outAbort = none ∧ (finishBlocks cause s).cwc.outPause = none := by
  rw [finishBlocks_eq]
  obtain ⟨run, _, _⟩ := finishRun_outs (endResponses cause).1 s
  obtain ⟨run', abort', _⟩ := finishAbort_outs (endResponses cause).2.1 (finishRun (endResponses cause).1 s)
  obtain ⟨run'', abort'', pause''⟩ := finishPause_outs (endResponses cause).2.2 (finishAbort (endResponses cause).2.1 (finishRun (endResponses cause).1 s))
  exact ⟨run''.trans (run'.trans run), abort''.trans abort', pause''⟩

theorem completed_finishBlocks (cause : EndCause) (s : State) : Completed (endedBlocks cause s.cwc) s (finishBlocks cause s) := by
  rw [finishBlocks_eq]
  obtain ⟨_, abort, pause⟩ := finishRun_outs (endResponses cause).1 s
  obtain ⟨_, _, pause'⟩ := finishAbort_outs (endResponses cause).2.1 (finishRun (endResponses cause).1 s)
  have chain := ((completed_finishRun (endResponses cause).1 s).trans (completed_finishAbort (endResponses cause).2.1 _)).trans
    (completed_finishPause (endResponses cause).2.2 _)
  rwa [pause', pause, abort] at chain

theorem endedBlocks_fst (cause : EndCause) (c : Cwc) :
    (endedBlocks cause c).map Prod.fst = c.outRun.toList ++ c.outAbort.toList ++ c.outPause.toList := by
  unfold endedBlocks
  simp only [List.map_append, List.map_map, Function.comp_def, List.map_id']

/-! ## The result buffer -/

theorem length_beBytes (n v : Nat) : (beBytes n v).length = n := by
  induction n with
  | zero => rfl
  | succ n ih => exact congrArg Nat.succ ih

theorem length_headErrorBytes (e : Option HeadError) : (headErrorBytes e).length = 12 := by
  cases e <;> simp [headErrorBytes, optByte, optUnit, reserved, length_beBytes]

theorem length_resultBytes (r : Option ResultRec) : (resultBytes r).length = 56 := by
  cases r with
  | none => simp [resultBytes, optByte, optUnit, flagByte, reserved, length_beBytes, length_headErrorBytes]
  | some r => simp [resultBytes, optByte, optUnit, flagByte, length_beBytes, length_headErrorBytes]

end Sys2Proof.Machine
end

section
/-! The end of a run, and RAIL-FAIL's halt of the card (R75, R76, R175). -/

namespace Sys2Proof.Machine

/-! ## The result written -/

/-- Writing the result record changes the window memory alone. -/
theorem writeRunResult_eq (s : State) : ∃ m, writeRunResult s = { s with cwc := { s.cwc with mem := m } } := by
  unfold writeRunResult
  split
  · exact ⟨_, rfl⟩
  · split
    · exact ⟨_, rfl⟩
    · exact writeBytes_eq _ _ _

theorem onlyCwc_writeRunResult (s : State) : OnlyCwc s (writeRunResult s) := by
  obtain ⟨m, hm⟩ := writeRunResult_eq s
  rw [hm]
  rfl

theorem writeRunResult_wf {s : State} (h : Memory.wf s.cwc.mem = true) : Memory.wf (writeRunResult s).cwc.mem = true := by
  unfold writeRunResult
  split
  · exact h
  · split
    · exact h
    · exact writeBytes_wf _ _ h

/-- RUN's result buffer, inside the area, holds the result record (R61, R184). -/
theorem readArea_writeRunResult {s : State} {p : Block} {k : Nat} (h : Memory.wf s.cwc.mem = true) (hp : s.cwc.outRun = some p)
    (low : 0x100 ≤ p.bufOffset) (high : p.bufOffset + 56 ≤ 0x1000) (hk : k < 56) :
    readArea (writeRunResult s) (p.bufOffset + k) = (resultBytes s.run.result).getD k 0 := by
  unfold writeRunResult
  simp only [hp]
  rw [if_neg (by omega), readArea_writeBytes _ _ _ h, length_resultBytes,
    if_pos ⟨Nat.le_add_right _ _, by omega, (inArea_iff _).mpr ⟨by omega, by omega⟩⟩, Nat.add_sub_cancel_left]

/-- The result record stands in RUN's result buffer where no block completed after it overlaps it (R75, R184). -/
theorem resultWritten {l : List (Block × Response)} {u t : State} {p : Block} (hm : Memory.wf u.cwc.mem = true)
    (hp : u.cwc.outRun = some p) (h : Completed l (writeRunResult u) t) : ResultWritten p u.run.result (l.map Prod.fst) t := by
  intro low high apart k hk
  refine (h.read (writeRunResult_wf hm) _).trans ((completedByte_of_ne (fun q hq => ?_) _).trans (readArea_writeRunResult hm hp low high hk))
  have := apart q.1 (List.mem_map_of_mem hq)
  constructor <;> omega

/-! ## Responses read -/

/-- A completed block's done flag reads 0 (R183). -/
theorem Completed.flag {l : List (Block × Response)} {s t : State} {p : Block} (h : Completed l s t) (hm : Memory.wf s.cwc.mem = true)
    (hl : Posted l) (hp : p ∈ l.map Prod.fst) : readArea t (p.offset + 2) = 0 := by
  obtain ⟨q, hq, rfl⟩ := List.mem_map.mp hp
  exact (h.read hm _).trans (completedByte_flag hl (hl q hq) (.inr ⟨q, hq, rfl⟩))

/-- The response code of a completed block when no block completed later stands at its offset (R183). -/
theorem Completed.code {l₀ l₁ : List (Block × Response)} {s t : State} {p : Block} {r : Response} (h : Completed (l₀ ++ (p, r) :: l₁) s t)
    (hm : Memory.wf s.cwc.mem = true) (hl : Posted (l₀ ++ (p, r) :: l₁)) (last : ∀ x ∈ l₁.map Prod.fst, x.offset ≠ p.offset) :
    readArea t (p.offset + 1) = r.code := by
  rw [h.read hm, completedByte_append]
  have later : Posted ((p, r) :: l₁) := fun q hq => hl q (List.mem_append_right _ hq)
  refine completedByte_code later (later _ List.mem_cons_self) (fun q hq ho => ?_) (.inr ⟨_, List.mem_cons_self, rfl⟩)
  rcases List.mem_cons.mp hq with rfl | hq
  · rfl
  · exact absurd ho (last q.1 (List.mem_map_of_mem hq))

/-- Blocks that a valid state holds were posted at valid offsets. -/
theorem posted_of_held {l : List (Block × Response)} {c : Cwc} (hc : ∀ b ∈ heldBlocks c, postValid b.offset = true)
    (hl : ∀ b ∈ l.map Prod.fst, b ∈ heldBlocks c) : Posted l := fun q hq => hc q.1 (hl q.1 (List.mem_map_of_mem hq))

/-- The blocks outstanding are held. -/
theorem mem_heldBlocks_of_out {c : Cwc} {b : Block} (h : b ∈ c.outRun.toList ++ c.outAbort.toList ++ c.outPause.toList) :
    b ∈ heldBlocks c := by
  unfold heldBlocks
  exact List.mem_append_left _ (List.mem_append_left _ h)

theorem map_fst_respond (bs : List Block) (r : Response) : (bs.map (·, r)).map Prod.fst = bs := by
  simp only [List.map_map, Function.comp_def, List.map_id']

/-- The response codes that the end of a run gives its outstanding blocks, where no block completed later stands (R75, R188). -/
theorem Completed.endedCodes {cause : EndCause} {c : Cwc} {l : List (Block × Response)} {s t : State}
    (h : Completed (endedBlocks cause c ++ l) s t) (hm : Memory.wf s.cwc.mem = true) (hl : Posted (endedBlocks cause c ++ l)) :
    (∀ p, c.outRun = some p → (∀ x ∈ c.outAbort.toList ++ c.outPause.toList ++ l.map Prod.fst, x.offset ≠ p.offset) →
      readArea t (p.offset + 1) = (endResponses cause).1.code)
    ∧ (∀ p, c.outAbort = some p → (∀ x ∈ c.outPause.toList ++ l.map Prod.fst, x.offset ≠ p.offset) →
      readArea t (p.offset + 1) = (endResponses cause).2.1.code)
    ∧ (∀ p, c.outPause = some p → (∀ x ∈ l.map Prod.fst, x.offset ≠ p.offset) →
      readArea t (p.offset + 1) = (endResponses cause).2.2.code) := by
  unfold endedBlocks at h hl
  refine ⟨fun p hp later => ?_, fun p hp later => ?_, fun p hp later => ?_⟩
  all_goals
    rw [hp] at h hl
    simp only [List.append_assoc, Option.toList_some, List.map_cons, List.map_nil, List.cons_append, List.nil_append] at h hl
  · refine h.code (l₀ := []) hm hl fun x hx => later x ?_
    rwa [List.map_append, List.map_append, map_fst_respond, map_fst_respond, ← List.append_assoc] at hx
  · refine h.code hm hl fun x hx => later x ?_
    rwa [List.map_append, map_fst_respond] at hx
  · rw [← List.append_assoc] at h hl
    exact h.code hm hl later

/-! ## The end of a run -/

/-- Outside the CWC, the end of a run is `closeRun`. -/
theorem onlyCwc_finishRunEnd (cause : EndCause) (s : State) : OnlyCwc (closeRun cause s) (finishRunEnd cause s) :=
  (onlyCwc_writeRunResult _).trans (onlyCwc_finishBlocks cause _)

theorem finishRunEnd_eq (cause : EndCause) (s : State) : finishRunEnd cause s = (closeRun cause s).withCwc (finishRunEnd cause s).cwc :=
  (onlyCwc_finishRunEnd cause s).eq

/-- The blocks that the end of a run completes, after the result record has been written (R75). -/
theorem completed_finishRunEnd (cause : EndCause) (s : State) :
    Completed (endedBlocks cause s.cwc) (writeRunResult (closeRun cause s)) (finishRunEnd cause s) := by
  have done := completed_finishBlocks cause (writeRunResult (closeRun cause s))
  obtain ⟨m, hm⟩ := writeRunResult_eq (closeRun cause s)
  have same : endedBlocks cause (writeRunResult (closeRun cause s)).cwc = endedBlocks cause s.cwc := by rw [hm]; rfl
  rwa [same] at done

/-- The result record of a run that has ended (R76). -/
theorem finishRunEnd_result (cause : EndCause) (s : State) :
    (finishRunEnd cause s).run.result = some (resultOf cause (doneEvent cause s)) := by
  rw [finishRunEnd_eq]
  rfl

theorem doneEvent_site (cause : EndCause) (s : State) (i : Site) : (doneEvent cause s).sites[i] = (finishRunEnd cause s).sites[i] := by
  rw [finishRunEnd_eq]
  rfl

/-- Settles O25: outside the CWC the end is `closeRun`, and the blocks are completed after the result has been written. -/
theorem runEnded : Obligations.RunEnded := by
  rintro c s t rfl
  have eq := finishRunEnd_eq c s
  have leaves := leaves_finishRunEnd c s
  have outs := finishBlocks_outs c (writeRunResult (closeRun c s))
  obtain ⟨outRun, outAbort, outPause⟩ := outs
  have done := completed_finishRunEnd c s
  have attention : (finishRunEnd c s).cwc.attention =
      noticed s.cwc.attention (s.cwc.outRun.toList ++ s.cwc.outAbort.toList ++ s.cwc.outPause.toList) := by
    rw [done.attention, endedBlocks_fst]
    obtain ⟨m, hm⟩ := writeRunResult_eq (closeRun c s)
    rw [hm]
    rfl
  refine ⟨fun i => ?_, ⟨_, finishRunEnd_result c s, rfl, rfl, rfl, rfl, rfl, rfl, rfl, rfl, fun i => ⟨?_, ?_⟩⟩, ?_, ?_, ?_,
    leaves.values, fun i => ?_, ?_, leaves.latch, leaves.store, ?_, ?_, leaves.peers, ?_, leaves.alert, outRun, outAbort, outPause,
    leaves.urgent, leaves.plan, attention, fun hc hm hq => ?_⟩
  · rw [eq]; exact closeRun_site c s i
  · exact (tabulate_get _ _).trans (congrArg SiteRec.bin (doneEvent_site c s i))
  · exact (tabulate_get _ _).trans (congrArg SiteRec.state (doneEvent_site c s i))
  · rw [finishRunEnd_result, eq]; rfl
  · rw [eq]; rfl
  · rw [eq]; rfl
  · rw [eq]; exact closeRun_running c s i
  · rw [eq]; rfl
  · rw [eq]; rfl
  · rw [eq]; rfl
  · rw [eq]; rfl
  · obtain ⟨_, _, _, _, held⟩ := hq
    have wf : Memory.wf (writeRunResult (closeRun c s)).cwc.mem = true := writeRunResult_wf hm
    have posted : Posted (endedBlocks c s.cwc) :=
      posted_of_held held fun b hb => mem_heldBlocks_of_out (by rwa [endedBlocks_fst] at hb)
    have flag : ∀ p ∈ s.cwc.outRun.toList ++ s.cwc.outAbort.toList ++ s.cwc.outPause.toList,
        readArea (finishRunEnd c s) (p.offset + 2) = 0 := fun p hp => done.flag wf posted (by rwa [endedBlocks_fst])
    have responses : endResponses c = (.runEnd c, .ok, .runEnded) := if_neg hc
    obtain ⟨runCode, abortCode, pauseCode⟩ := Completed.endedCodes (l := []) (by rwa [List.append_nil]) wf (by rwa [List.append_nil])
    refine ⟨fun p hp => ⟨flag p (by simp [hp]), fun later => ?_, ?_⟩, fun p hp => ⟨flag p (by simp [hp]), fun later => ?_⟩,
      fun p hp => ⟨flag p (by simp [hp]), ?_⟩⟩
    · exact (runCode p hp (by simpa using later)).trans (by rw [responses])
    · rw [← endedBlocks_fst c, show (finishRunEnd c s).run.result = (closeRun c s).run.result by rw [eq]; rfl]
      exact resultWritten hm hp done
    · exact (abortCode p hp (by simpa using later)).trans (by rw [responses])
    · exact (pauseCode p hp (by simp)).trans (by rw [responses])

end Sys2Proof.Machine
end

section
/-! RAIL-FAIL's halt of the card (R175). -/

namespace Sys2Proof.Machine

/-- What the end of a run leaves outside sites, timers, run, UAG, Sync Unit and CWC (R75). -/
theorem finishRunEnd_others (cause : EndCause) (s : State) : (finishRunEnd cause s).alert = s.alert ∧ (finishRunEnd cause s).link = s.link
    ∧ (finishRunEnd cause s).peers = s.peers ∧ (finishRunEnd cause s).rail = s.rail ∧ (finishRunEnd cause s).store = s.store
    ∧ (finishRunEnd cause s).hci = s.hci := by
  have leaves := leaves_finishRunEnd cause s
  refine ⟨leaves.alert, ?_, leaves.peers, ?_, leaves.store, ?_⟩ <;> rw [finishRunEnd_eq] <;> rfl

theorem finishRunEnd_site (cause : EndCause) (s : State) (i : Site) :
    (finishRunEnd cause s).sites[i] = doneSite cause s.profile.passBin s.sites[i] := by
  rw [finishRunEnd_eq]
  exact closeRun_site cause s i

theorem finishRunEnd_running (cause : EndCause) (s : State) (i : Site) : (finishRunEnd cause s).timers.running[i] = false := by
  rw [finishRunEnd_eq]
  exact closeRun_running cause s i

/-- What a shortened teardown leaves outside HCI, busy flags, timers and the unit in flight (R74). -/
theorem cutShort_others (s : State) : (cutShort s).alert = s.alert ∧ (cutShort s).link = s.link ∧ (cutShort s).peers = s.peers
    ∧ (cutShort s).rail = s.rail ∧ (cutShort s).store = s.store
    ∧ (cutShort s).run = { s.run with inflight := (cutShort s).run.inflight } := by
  unfold cutShort
  dsimp only
  split <;> exact ⟨rfl, rfl, rfl, rfl, rfl, rfl⟩

/-- After a shortened teardown nothing is awaited, and ABANDON is sent unless the teardown has sent it (R74). -/
theorem cutShort_hci (s : State) : (cutShort s).hci.outstanding = none
    ∧ (s.run.ending = none ∨ s.hci.held = some .abandon → (cutShort s).hci.cable = some .abandon) := by
  unfold cutShort
  dsimp only
  split
  · exact ⟨rfl, fun _ => rfl⟩
  next hsent => exact ⟨rfl, fun hc => absurd (hc.imp_right (.inr ∘ .inr)) hsent⟩

theorem haltPeers_get (s : State) (x : Station) : (haltBlocks s).peers[x] = { s.peers[x] with held := 0, need := none } := tabulate_get _ _

/-- A card with no run in progress is halted by its blocks alone. -/
theorem haltCard_idle {s : State} (h : s.run.seq = .idle) : haltCard s = haltBlocks s :=
  if_neg (Bool.eq_false_iff.mp (bne_eq_false_iff_eq.mpr h))

/-- A card with a run in progress ends it as well, cut short (R74, R175). -/
theorem haltCard_active {s : State} (h : s.run.seq ≠ .idle) :
    haltCard s = finishRunEnd (cutCause .halted s) (cutShort (haltBlocks s)) := if_pos (bne_iff_ne.mpr h)

/-- What a halt leaves or clears outside the run (R175). -/
theorem haltCard_others (s : State) : (haltCard s).alert = { s.alert with halted := true } ∧ (haltCard s).link = (haltBlocks s).link
    ∧ (haltCard s).peers = (haltBlocks s).peers ∧ (haltCard s).rail = Rail.reset ∧ (haltCard s).store = s.store := by
  by_cases hq : s.run.seq = .idle
  · rw [haltCard_idle hq]
    exact ⟨rfl, rfl, rfl, rfl, rfl⟩
  · obtain ⟨alert, link, peers, rail, store, _⟩ := finishRunEnd_others (cutCause .halted s) (cutShort (haltBlocks s))
    obtain ⟨alert', link', peers', rail', store', _⟩ := cutShort_others (haltBlocks s)
    rw [haltCard_active hq]
    exact ⟨alert.trans alert', link.trans link', peers.trans peers', rail.trans rail', store.trans store'⟩

/-- RAIL-FAIL on a NORMAL card halts it, its level set. -/
theorem exec_railFail {s : State} (h : s.alert.halted = false) :
    exec .railFail s = .next (haltCard (s.withAlert { s.alert with railFail := true })) :=
  congrArg Host.Outcome.next (if_neg (Bool.eq_false_iff.mp h))

/-- The run that a halt ends: its result record has the first end cause, and nothing of it is outstanding any more (R74, R175). -/
theorem haltCard_run {s : State} (hq : s.run.seq ≠ .idle) : (haltCard s).run.seq = .idle ∧ (haltCard s).hci.outstanding = none
    ∧ (haltCard s).cwc.outRun = none ∧ (haltCard s).cwc.outPause = none ∧ (haltCard s).cwc.outAbort = none
    ∧ (∀ i : Site, (haltCard s).sites[i].busy = false ∧ (haltCard s).timers.running[i] = false)
    ∧ ∃ r, (haltCard s).run.result = some r ∧ r.cause = s.run.ending.getD .halted ∧ r.lastStep = s.run.current := by
  rw [haltCard_active hq]
  generalize hc : cutShort (haltBlocks s) = c
  obtain ⟨_, _, _, _, _, run⟩ := cutShort_others (haltBlocks s)
  obtain ⟨idle, _⟩ := cutShort_hci (haltBlocks s)
  obtain ⟨_, _, _, _, _, hci⟩ := finishRunEnd_others (cutCause .halted s) c
  obtain ⟨outRun, outAbort, outPause⟩ := finishBlocks_outs (cutCause .halted s) (writeRunResult (closeRun (cutCause .halted s) c))
  rw [hc] at run idle
  refine ⟨by rw [finishRunEnd_eq]; rfl, by rw [hci]; exact idle, outRun, outPause, outAbort, fun i => ⟨?_, ?_⟩, _, finishRunEnd_result _ _,
    rfl, ?_⟩
  · rw [finishRunEnd_site]
    unfold doneSite
    split <;> rfl
  · exact finishRunEnd_running _ _ i
  · show c.run.current = _
    rw [run]
    rfl

/-- Settles O49: the halt is its blocks, with the end of the run where one is in progress. -/
theorem railFailHalts : Obligations.RailFailHalts := by
  intro s
  refine ⟨fun hh => congrArg Host.Outcome.next (if_pos hh), fun hh => ⟨_, exec_railFail hh, ?_⟩⟩
  generalize hu : s.withAlert { s.alert with railFail := true } = u
  have run : u.run = s.run := by rw [← hu]; rfl
  obtain ⟨alert, link, peers, rail, store⟩ := haltCard_others u
  rw [alert, link, peers, rail, store]
  refine ⟨by rw [← hu]; rfl, by rw [← hu]; rfl, fun x => ?_, rfl, rfl, rfl, rfl, rfl, rfl, by rw [← hu]; rfl, fun hq => ?_, fun hq he => ?_,
    fun hq => ?_⟩
  · rw [haltPeers_get, ← hu]
    exact ⟨rfl, rfl, rfl, rfl, rfl⟩
  · rw [← run] at hq ⊢
    exact haltCard_run hq
  · rw [← run] at hq he
    obtain ⟨_, _, _, _, _, hci⟩ := finishRunEnd_others (cutCause .halted u) (cutShort (haltBlocks u))
    rw [haltCard_active hq, hci]
    exact (cutShort_hci (haltBlocks u)).2 (.inl he)
  · rw [haltCard_idle (run ▸ hq), ← hu]
    exact ⟨rfl, rfl, rfl, rfl⟩

end Sys2Proof.Machine
end

section
/-! CARD-RESET: the run ended, the blocks at their reset values, and every command block completed (R2, R188). -/

namespace Sys2Proof.Machine

/-! ## The run that a CARD-RESET ends -/

theorem endRunForReset_idle {s : State} (h : s.run.seq = .idle) : endRunForReset s = s :=
  if_neg (Bool.eq_false_iff.mp (bne_eq_false_iff_eq.mpr h))

theorem endRunForReset_active {s : State} (h : s.run.seq ≠ .idle) :
    endRunForReset s = writeRunResult (closeRun (cutCause .cardReset s) (cutShort s)) := if_pos (bne_iff_ne.mpr h)

theorem cutShort_cwc (s : State) : (cutShort s).cwc = s.cwc := by
  unfold cutShort
  dsimp only
  split <;> rfl

/-- Of the CWC, the end of the run writes the result buffer alone (R188, step 1). -/
theorem endRunForReset_cwc (s : State) : ∃ m, (endRunForReset s).cwc = { s.cwc with mem := m }
    ∧ (Memory.wf s.cwc.mem = true → Memory.wf m = true) := by
  by_cases hq : s.run.seq = .idle
  · rw [endRunForReset_idle hq]
    exact ⟨_, rfl, id⟩
  · have cut := cutShort_cwc s
    rw [endRunForReset_active hq]
    obtain ⟨m, hm⟩ := writeRunResult_eq (closeRun (cutCause .cardReset s) (cutShort s))
    refine ⟨m, by rw [hm]; exact congrArg (fun c : Cwc => { c with mem := m }) cut, fun h => ?_⟩
    have wf := writeRunResult_wf (s := closeRun (cutCause .cardReset s) (cutShort s)) (by rw [closeRun_cwc, cut]; exact h)
    rwa [hm] at wf

/-- A site is TRIPPED after the end of the run exactly when it was. -/
theorem endRunForReset_tripped (s : State) (i : Site) :
    (endRunForReset s).sites[i].state = .tripped ↔ s.sites[i].state = .tripped := by
  by_cases hq : s.run.seq = .idle
  · rw [endRunForReset_idle hq]
  · have site : (endRunForReset s).sites[i] = doneSite (cutCause .cardReset s) (cutShort s).profile.passBin (cutShort s).sites[i] := by
      rw [endRunForReset_active hq, (onlyCwc_writeRunResult _).eq]
      exact closeRun_site (cutCause .cardReset s) (cutShort s) i
    obtain ⟨b, hb⟩ := cutShort_site s i
    rw [site, hb]
    unfold doneSite
    dsimp only
    split
    next ha => exact iff_of_false nofun fun ht => nomatch ha.symm.trans ht
    · exact Iff.rfl

/-- What the end of the run leaves of store, lines and UAG; ABANDON is sent unless the teardown has sent it (R74). -/
theorem endRunForReset_others (s : State) : (endRunForReset s).store = s.store ∧ (endRunForReset s).alert = s.alert
    ∧ unloaded (endRunForReset s).uag = unloaded s.uag
    ∧ (s.run.seq ≠ .idle → s.run.ending = none ∨ s.hci.held = some .abandon → (endRunForReset s).hci.cable = some .abandon) := by
  by_cases hq : s.run.seq = .idle
  · rw [endRunForReset_idle hq]
    exact ⟨rfl, rfl, rfl, fun h => absurd hq h⟩
  · obtain ⟨alert, _, _, _, store, _⟩ := cutShort_others s
    have uag : (cutShort s).uag = s.uag := by
      unfold cutShort
      dsimp only
      split <;> rfl
    have leaves := (leaves_closeRun (cutCause .cardReset s) (cutShort s)).trans (leaves_writeRunResult _)
    obtain ⟨_, cable⟩ := cutShort_hci s
    rw [endRunForReset_active hq]
    generalize cutShort s = c at *
    refine ⟨leaves.store.trans store, leaves.alert.trans alert, ?_, fun _ hc => ?_⟩ <;> rw [(onlyCwc_writeRunResult _).eq]
    · show unloaded (unloaded c.uag) = unloaded s.uag
      rw [uag]
      rfl
    · exact cable hc

/-- The result record of the run that a CARD-RESET ends (R76). -/
theorem endRunForReset_result (s : State) : (s.run.seq = .idle → (endRunForReset s).run.result = s.run.result)
    ∧ (s.run.seq ≠ .idle → ∃ r, (endRunForReset s).run.result = some r ∧ r.cause = s.run.ending.getD .cardReset
      ∧ r.lastStep = s.run.current ∧ r.stepsCompleted = s.run.stepsCompleted ∧ r.alertCount = s.alert.count) := by
  refine ⟨fun hq => by rw [endRunForReset_idle hq], fun hq => ?_⟩
  obtain ⟨alert, _, _, _, _, run⟩ := cutShort_others s
  rw [endRunForReset_active hq, (onlyCwc_writeRunResult _).eq]
  refine ⟨resultOf (cutCause .cardReset s) (doneEvent (cutCause .cardReset s) (cutShort s)), rfl, rfl, ?_, ?_, ?_⟩
  · show (cutShort s).run.current = _
    rw [run]
  · show (cutShort s).run.stepsCompleted = _
    rw [run]
  · show (cutShort s).alert.count = _
    rw [alert]

/-! ## The blocks that a CARD-RESET completes -/

/-- Completing blocks touches window and attention count alone. -/
theorem respondAll_eq (r : Response) (bs : List Block) (s : State) :
    ∃ m a, respondAll r bs s = { s with cwc := { s.cwc with mem := m, attention := a } } := by
  induction bs generalizing s with
  | nil => exact ⟨_, _, rfl⟩
  | cons b bs ih =>
    obtain ⟨m, a, h⟩ := ih (respond b r s)
    refine ⟨m, a, h.trans ?_⟩
    rw [respond_eq]

/-- The waiting blocks and the CARD-RESET block with their responses, in the order of R188. -/
def waitingBlocks (c : Cwc) (b : Block) : List (Block × Response) := (c.urgent ++ c.plan).map (·, .cardReset) ++ [(b, .ok)]

theorem waitingBlocks_fst (c : Cwc) (b : Block) : (waitingBlocks c b).map Prod.fst = c.urgent ++ c.plan ++ [b] := by
  unfold waitingBlocks
  rw [List.map_append, map_fst_respond]
  rfl

theorem resetBlocks_fst (cause : EndCause) (c : Cwc) (b : Block) :
    (endedBlocks cause c ++ waitingBlocks c b).map Prod.fst = heldBlocks c ++ [b] := by
  rw [List.map_append, endedBlocks_fst, waitingBlocks_fst]
  simp only [heldBlocks, List.append_assoc]

/-- Every held block completed: the outstanding ones as the end cause gives, the waiting ones CARD RESET (R188, steps 3 and 4). -/
theorem completed_completeAll (cause : EndCause) (s : State) :
    Completed (endedBlocks cause s.cwc ++ (s.cwc.urgent ++ s.cwc.plan).map (·, .cardReset)) s (completeAll cause s) := by
  have leaves := leaves_finishBlocks cause s
  have waiting : Completed ((s.cwc.urgent ++ s.cwc.plan).map (·, .cardReset)) (finishBlocks cause s) (completeAll cause s) := by
    rw [List.map_append]
    have urgent := completed_respondAll .cardReset (finishBlocks cause s).cwc.urgent (finishBlocks cause s)
    have plan := completed_respondAll .cardReset (finishBlocks cause s).cwc.plan
      (respondAll .cardReset (finishBlocks cause s).cwc.urgent (finishBlocks cause s))
    have both := (urgent.trans plan).trans (completed_nil (t := completeAll cause s) rfl rfl)
    rwa [List.append_nil, leaves.urgent, leaves.plan] at both
  exact (completed_finishBlocks cause s).trans waiting

/-- What the CWC holds when every block has been completed: no block, and its cells and counts as they were. -/
theorem completeAll_cwc (cause : EndCause) (s : State) : ∃ m a, (completeAll cause s).cwc =
    { s.cwc with mem := m, attention := a, urgent := [], plan := [], outRun := none, outPause := none, outAbort := none } := by
  have leaves := leaves_finishBlocks cause s
  obtain ⟨outRun, outAbort, outPause⟩ := finishBlocks_outs cause s
  obtain ⟨m, a, hu⟩ := respondAll_eq .cardReset (finishBlocks cause s).cwc.urgent (finishBlocks cause s)
  obtain ⟨m', a', hp⟩ := respondAll_eq .cardReset (finishBlocks cause s).cwc.plan
    (respondAll .cardReset (finishBlocks cause s).cwc.urgent (finishBlocks cause s))
  refine ⟨m', a', ?_⟩
  unfold completeAll
  dsimp only
  rw [hp, hu]
  dsimp only
  rw [outRun, outAbort, outPause, leaves.postCell, leaves.postHeld, leaves.attentionHeld, leaves.badPosts]

/-- The block taken and those still held were held before. -/
theorem mem_heldBlocks_of_takeBlock {s s0 : State} {b x : Block} (h : takeBlock s = some (b, s0)) (hx : x ∈ heldBlocks s0.cwc ++ [b]) :
    x ∈ heldBlocks s.cwc := by
  rw [List.mem_append, List.mem_singleton, mem_heldBlocks] at hx
  rw [mem_heldBlocks]
  unfold takeBlock at h
  split at h
  next b' rest hu =>
    cases h
    rw [hu, List.mem_cons]
    tauto
  next b' rest hu hp =>
    cases h
    rw [hp, List.mem_cons]
    tauto
  · cases h

/-- The responses that a CARD-RESET gives the outstanding blocks, by the end cause of the run in progress, if it has one (R188). -/
theorem endResponses_cut (s : State) :
    (endResponses (cutCause .cardReset s)).1.code =
      (match s.run.ending with | none | some .cardReset => Response.cardReset.code | some c => (Response.runEnd c).code)
    ∧ (endResponses (cutCause .cardReset s)).2.1.code =
      (match s.run.ending with | none | some .cardReset => Response.cardReset.code | some _ => Response.ok.code)
    ∧ (endResponses (cutCause .cardReset s)).2.2.code =
      (match s.run.ending with | none | some .cardReset => Response.cardReset.code | some _ => Response.runEnded.code) := by
  unfold cutCause
  cases s.run.ending with
  | none => exact ⟨rfl, rfl, rfl⟩
  | some c => cases c <;> exact ⟨rfl, rfl, rfl⟩

/-- The card after a CARD-RESET has been served: outside the CWC, the blocks at their reset values. -/
theorem cardReset_eq (straps : Straps) (b : Block) (s : State) : cardResetOwner straps b s =
    (resetBlocks straps (endRunForReset s)).withCwc (cardResetOwner straps b s).cwc :=
  ((onlyCwc_completeAll _ _).trans (onlyCwc_respond _ _ _)).eq

theorem completed_cardReset (straps : Straps) (b : Block) (s : State) :
    Completed (endedBlocks (cutCause .cardReset s) s.cwc ++ waitingBlocks s.cwc b) (endRunForReset s) (cardResetOwner straps b s) := by
  obtain ⟨m, hm, _⟩ := endRunForReset_cwc s
  have start : Completed [] (endRunForReset s) (resetBlocks straps (endRunForReset s)) := completed_nil rfl rfl
  have done := start.trans ((completed_completeAll (cutCause .cardReset s) (resetBlocks straps (endRunForReset s))).trans
    (completed_respond b .ok _))
  rw [show (resetBlocks straps (endRunForReset s)).cwc = { s.cwc with mem := m } from hm, List.nil_append, List.append_assoc] at done
  exact done

/-- What the CWC holds after a CARD-RESET (R188). -/
theorem cardReset_cwc (straps : Straps) (b : Block) (s : State) : ∃ m a, (cardResetOwner straps b s).cwc =
    { s.cwc with mem := m, attention := a, urgent := [], plan := [], outRun := none, outPause := none, outAbort := none } := by
  obtain ⟨m, hm, _⟩ := endRunForReset_cwc s
  obtain ⟨m', a, h⟩ := completeAll_cwc (cutCause .cardReset s) (resetBlocks straps (endRunForReset s))
  unfold cardResetOwner
  rw [respond_eq, h, show (resetBlocks straps (endRunForReset s)).cwc = { s.cwc with mem := m } from hm]
  exact ⟨_, _, rfl⟩

/-- What the window shows after a CARD-RESET: done flags 0, and the response codes of R188. -/
theorem cardReset_window {straps : Straps} {b : Block} {s : State} (hm : Memory.wf s.cwc.mem = true)
    (posted : ∀ x ∈ heldBlocks s.cwc ++ [b], postValid x.offset = true) :
    (∀ x ∈ heldBlocks s.cwc ++ [b], readArea (cardResetOwner straps b s) (x.offset + 2) = 0)
    ∧ readArea (cardResetOwner straps b s) (b.offset + 1) = Response.ok.code
    ∧ (∀ x ∈ s.cwc.urgent ++ s.cwc.plan, x.offset ≠ b.offset →
      readArea (cardResetOwner straps b s) (x.offset + 1) = Response.cardReset.code) := by
  obtain ⟨m, hcwc, hwf⟩ := endRunForReset_cwc s
  have wf : Memory.wf (endRunForReset s).cwc.mem = true := by rw [hcwc]; exact hwf hm
  have done := completed_cardReset straps b s
  have all : Posted (endedBlocks (cutCause .cardReset s) s.cwc ++ waitingBlocks s.cwc b) := fun q hq =>
    posted q.1 (by rw [← resetBlocks_fst (cutCause .cardReset s)]; exact List.mem_map_of_mem hq)
  have waiting : Posted (waitingBlocks s.cwc b) := fun q hq => all q (List.mem_append_right _ hq)
  refine ⟨fun x hx => done.flag wf all (by rwa [resetBlocks_fst]), ?_, fun x hx hne => ?_⟩
  · unfold waitingBlocks at done all
    rw [← List.append_assoc] at done all
    exact done.code wf all fun x hx => absurd hx List.not_mem_nil
  · have mem : (x, Response.cardReset) ∈ waitingBlocks s.cwc b := List.mem_append_left _ (List.mem_map_of_mem hx)
    rw [done.read wf, completedByte_append]
    refine completedByte_code waiting (waiting _ mem) (fun q hq ho => ?_) (.inr ⟨_, mem, rfl⟩)
    rcases List.mem_append.mp hq with hq | hq
    · obtain ⟨y, _, rfl⟩ := List.mem_map.mp hq
      rfl
    · rw [List.mem_singleton.mp hq] at ho
      exact absurd ho.symm hne

/-- Settles O26: outside the CWC the reset card is written out, and the window is that of the blocks completed in turn. -/
theorem cardResetApplied : Obligations.CardResetApplied := by
  rintro b straps s s0 ⟨⟨htake, hcmd⟩, hwin⟩
  have taken : exec (.cardReset straps) s = .next (cardResetOwner straps b s0) :=
    congrArg Host.Outcome.next (serve_served htake hcmd hwin)
  have eq := cardReset_eq straps b s0
  obtain ⟨store, alert, uag, abandon⟩ := endRunForReset_others s0
  obtain ⟨idleResult, activeResult⟩ := endRunForReset_result s0
  obtain ⟨m, a, cwc⟩ := cardReset_cwc straps b s0
  obtain ⟨e, hcwc, hwf⟩ := endRunForReset_cwc s0
  have done := completed_cardReset straps b s0
  have result : (cardResetOwner straps b s0).run.result = (endRunForReset s0).run.result := by rw [eq]; rfl
  refine ⟨_, taken, by rw [eq]; exact store, by rw [eq]; exact uag, fun i => ?_, by rw [eq]; rfl, by rw [eq]; rfl, by rw [eq]; rfl,
    by rw [eq]; rfl, by rw [eq]; rfl, ?_, by rw [eq]; rfl, by rw [eq]; rfl, by rw [eq]; rfl, by rw [eq]; rfl, by rw [eq]; rfl,
    fun hq hc => ?_, by rw [cwc], by rw [cwc], by rw [cwc], by rw [cwc], by rw [cwc], by rw [cwc], by rw [cwc], by rw [cwc], by rw [cwc], ?_,
    by rw [eq]; rfl, fun hq => by rw [result]; exact idleResult hq, fun hq => by rw [result]; exact activeResult hq, fun hm hq => ?_⟩
  · rw [eq]
    refine (resetBlocks_site straps (endRunForReset s0) i).trans ?_
    unfold resetSite
    simp only [endRunForReset_tripped]
  · rw [eq]
    show AlertMonitor.mk _ _ _ _ _ _ = _
    rw [alert]
    rfl
  · rw [eq]
    exact abandon hq hc
  · rw [done.attention, resetBlocks_fst, hcwc]
  · obtain ⟨_, _, _, _, held⟩ := hq
    have posted : ∀ x ∈ heldBlocks s0.cwc ++ [b], postValid x.offset = true := fun x hx =>
      held x (mem_heldBlocks_of_takeBlock htake hx)
    have hm0 : Memory.wf s0.cwc.mem = true := by rw [takeBlock_eq htake]; exact hm
    have wf : Memory.wf (endRunForReset s0).cwc.mem = true := by rw [hcwc]; exact hwf hm0
    have all : Posted (endedBlocks (cutCause .cardReset s0) s0.cwc ++ waitingBlocks s0.cwc b) := fun q hq =>
      posted q.1 (by rw [← resetBlocks_fst (cutCause .cardReset s0)]; exact List.mem_map_of_mem hq)
    obtain ⟨flags, ok, waiting⟩ := cardReset_window (straps := straps) hm0 posted
    obtain ⟨run, abort, pause⟩ := done.endedCodes wf all
    obtain ⟨runCode, abortCode, pauseCode⟩ := endResponses_cut s0
    rw [waitingBlocks_fst] at run abort pause
    simp only [← List.append_assoc] at run abort
    refine ⟨flags, ok, waiting, fun p hp later => (run p hp later).trans runCode, fun p hp later => (abort p hp later).trans abortCode,
      fun p hp later => (pause p hp later).trans pauseCode, fun p hp hq => ?_⟩
    rw [← resetBlocks_fst (cutCause .cardReset s0), result, endRunForReset_active hq, (onlyCwc_writeRunResult _).eq]
    have cut := cutShort_cwc s0
    rw [endRunForReset_active hq] at done
    exact resultWritten (u := closeRun (cutCause .cardReset s0) (cutShort s0)) (by rw [closeRun_cwc, cut]; exact hm0)
      (by rw [closeRun_cwc, cut]; exact hp) done

end Sys2Proof.Machine
end

section
/-! SET-PROFILE and DELETE-STEPS: conditions that refuse in the order of their rules, and the store written when none does. -/

namespace Sys2Proof.Machine

/-! ## Conditions in order -/

/-- The first condition of a table, when it holds, gives the response. -/
theorem guarded_first {b : Block} {c : Bool} {r : Response} {conds : List (Bool × Response)} {act : State → State} {s : State}
    (h : c = true) : guarded b ((c, r) :: conds) act s = respond b r s :=
  guarded_refused (if_pos h)

/-- The first condition of a table, when it does not hold, leaves the decision to the rest. -/
theorem firstRefusal_next {c : Bool} {r : Response} {conds : List (Bool × Response)} (h : c = false) :
    firstRefusal ((c, r) :: conds) = firstRefusal conds :=
  if_neg (Bool.eq_false_iff.mp h)

theorem guarded_next {b : Block} {c : Bool} {r : Response} {conds : List (Bool × Response)} {act : State → State} {s : State}
    (h : c = false) : guarded b ((c, r) :: conds) act s = guarded b conds act s := by
  unfold guarded
  rw [firstRefusal_next h]

/-! ## SET-PROFILE -/

/-- The count of defined steps is not 0 exactly when an entry of the table holds a record. -/
theorem stepsDefined_ne_zero (s : State) : stepsDefined s ≠ 0 ↔ ∃ k, k < 128 ∧ (s.store.steps[k]?).join ≠ none := by
  unfold stepsDefined
  rw [Ne, List.length_eq_zero_iff, List.filter_eq_nil_iff]
  push Not
  constructor
  · rintro ⟨x, hx, hsome⟩
    obtain ⟨k, hk, rfl⟩ := List.getElem_of_mem hx
    have bound : k < 128 := by simpa using hk
    exact ⟨k, bound, by simpa [bound, Option.ne_none_iff_isSome] using hsome⟩
  · rintro ⟨k, hk, hne⟩
    refine ⟨s.store.steps[k], Vector.mem_toList_iff.mpr (Vector.getElem_mem hk), ?_⟩
    simpa [hk, Option.ne_none_iff_isSome] using hne

/-- SET-PROFILE's figures outside a run with an empty step table: the last three conditions decide. -/
theorem setProfileOwner_free {b : Block} {s : State} (hidle : s.run.seq = .idle) (hnone : stepsDefined s = 0) :
    setProfileOwner b s = guarded b
      [(decide (4 < b.windowCount), .profileRange), (b.opLength != 28 + 4 * b.windowCount, .operandLength),
       (!(profileOperand b).inRange, .profileRange)]
      (fun s => respond b .ok (s.withStore { s.store with profile := some (profileOperand b) })) s := by
  unfold setProfileOwner setProfileChecks
  rw [guarded_runIdle hidle, guarded_next (by simp [hnone])]
  rfl

/-- Settles O8: each condition of the table is reached when those before it do not hold. -/
theorem profileReplaced : Obligations.ProfileReplaced := by
  rintro b s s0 ⟨⟨ht, hc⟩, hw⟩
  have served : exec .setProfile s = .next (setProfileOwner b s0) := congrArg _ (serve_served ht hc hw)
  rw [served]
  refine ⟨fun hrun => congrArg _ (guarded_runActive hrun), fun hidle hdef => ?_, fun hidle hnone => ?_⟩
  · have inUse := (stepsDefined_ne_zero s0).mpr hdef
    exact congrArg _ ((guarded_runIdle hidle).trans (guarded_first (bne_iff_ne.mpr inUse)))
  · have free : stepsDefined s0 = 0 := by
      by_contra hne
      obtain ⟨k, hk, hrec⟩ := (stepsDefined_ne_zero s0).mp hne
      exact hrec (hnone k hk)
    rw [setProfileOwner_free hidle free]
    refine ⟨fun h4 => ?_, fun h4 hlen => ?_, fun h4 hlen hrange => ?_, fun h4 hlen hrange => ?_⟩
    · rw [guarded_first (decide_eq_true h4)]
    all_goals rw [guarded_next (decide_eq_false (Nat.not_lt.mpr h4))]
    · rw [guarded_first (bne_iff_ne.mpr hlen)]
    all_goals rw [guarded_next (bne_eq_false_iff_eq.mpr hlen)]
    · rw [guarded_first (by rw [hrange]; rfl)]
    · rw [guarded_next (by rw [hrange]; rfl)]
      rfl

/-! ## DELETE-STEPS -/

/-- An entry of the step table after the entries first to last have been emptied. -/
theorem emptySteps_get (first last : Nat) (s : State) {k : Nat} (hk : k < 128) :
    (emptySteps first last s).store.steps[k]? = if first ≤ k ∧ k ≤ last then some none else s.store.steps[k]? := by
  show (s.store.steps.mapFinIdx fun k rec _ => if first ≤ k ∧ k ≤ last then none else rec)[k]? = _
  rw [Vector.getElem?_eq_getElem hk, Vector.getElem_mapFinIdx, Vector.getElem?_eq_getElem hk]
  split <;> rfl

/-- Settles O10: the two conditions of the table, and the entries of the range emptied past them. -/
theorem stepsDeleted : Obligations.StepsDeleted := by
  rintro b s s0 ⟨⟨ht, hc⟩, hw⟩
  have served : exec .deleteSteps s = .next (deleteStepsOwner b s0) := congrArg _ (serve_served ht hc hw)
  rw [served]
  have ordered (hle : b.op 0 ≤ b.op 1) (hmax : b.op 1 ≤ 127) : decide (b.op 1 < b.op 0 ∨ 127 < b.op 1) = false :=
    decide_eq_false (by omega)
  refine ⟨fun hbad => congrArg _ (guarded_first (decide_eq_true hbad)), fun hle hmax hrun => ?_, fun hle hmax hidle => ?_⟩
  · exact congrArg _ ((guarded_next (ordered hle hmax)).trans (guarded_runActive hrun))
  · exact ⟨emptySteps (b.op 0) (b.op 1) s0, congrArg _ ((guarded_next (ordered hle hmax)).trans (guarded_runIdle hidle)),
      fun k hk => emptySteps_get _ _ s0 hk, rfl, rfl, rfl⟩

end Sys2Proof.Machine
end

section
/-! DEFINE-STEP: the model's conditions of R35 by the bytes of the operand, row by row, and the record written into its entry. -/

namespace Sys2Proof.Machine

/-! ## Fields and codes of the operand -/

theorem opField_succ (b : Block) (i n : Nat) : b.opField i (n + 1) = b.opField i n * 256 + b.op (i + n) := by
  unfold Block.opField
  rw [List.range_succ, List.foldl_concat]

theorem opField_two (b : Block) (i : Nat) : b.opField i 2 = 256 * b.op i + b.op (i + 1) := by
  have empty : b.opField i 0 = 0 := rfl
  rw [opField_succ, opField_succ, empty, Nat.add_zero]
  omega

theorem opField_three (b : Block) (i : Nat) : b.opField i 3 = 65536 * b.op i + 256 * b.op (i + 1) + b.op (i + 2) := by
  rw [opField_succ, opField_two]
  omega

theorem opField_four (b : Block) (i : Nat) :
    b.opField i 4 = 16777216 * b.op i + 65536 * b.op (i + 1) + 256 * b.op (i + 2) + b.op (i + 3) := by
  rw [opField_succ, opField_three]
  omega

/-- A code byte names nothing exactly past the last of its codes (R192). -/
theorem directionOf_eq_none : ∀ n, directionOf n = none ↔ 1 < n
  | 0 | 1 => by decide
  | _ + 2 => iff_of_true rfl (by omega)

theorem dataModeOf_eq_none : ∀ n, dataModeOf n = none ↔ 3 < n
  | 0 | 1 | 2 | 3 => by decide
  | _ + 4 => iff_of_true rfl (by omega)

theorem failActionOf_eq_none : ∀ n, failActionOf n = none ↔ 1 < n
  | 0 | 1 => by decide
  | _ + 2 => iff_of_true rfl (by omega)

theorem timeoutActionOf_eq_none : ∀ n, timeoutActionOf n = none ↔ 1 < n
  | 0 | 1 => by decide
  | _ + 2 => iff_of_true rfl (by omega)

theorem flagOf_eq_none : ∀ n, flagOf n = none ↔ 1 < n
  | 0 | 1 => by decide
  | _ + 2 => iff_of_true rfl (by omega)

theorem flagOf_eq_true : ∀ n, flagOf n = some true ↔ n = 1
  | 0 | 1 => by decide
  | _ + 2 => iff_of_false nofun (by omega)

theorem granuleOf_eq_device : ∀ n, granuleOf n = some .device ↔ n = 4
  | 0 | 1 | 2 | 3 | 4 => by decide
  | _ + 5 => iff_of_false nofun (by omega)

/-- The space exponent of the granule that a code names, 0 for DEVICE and for a code that names none (R23). -/
def codeSpace (pr : Profile) (g : Nat) : Nat :=
  if g = 1 then pr.c + pr.b + pr.s else if g = 2 then pr.c + pr.b else if g = 3 then pr.c else 0

theorem spaceExp_granuleOf (pr : Profile) : ∀ g, spaceExp pr ((granuleOf g).getD .device) = codeSpace pr g
  | 0 | 1 | 2 | 3 | 4 => rfl
  | _ + 5 => by simp [granuleOf, spaceExp, codeSpace]

theorem stepSpace_eq {b : Block} {s : State} {pr : Profile} (hp : s.store.profile = some pr) :
    stepSpace b s = codeSpace pr (b.op 3) := by
  have profile : s.profile = pr := by unfold State.profile; rw [hp]; rfl
  unfold stepSpace
  rw [profile]
  exact spaceExp_granuleOf pr (b.op 3)

/-- The kinds with an address part whose granule is not DEVICE are those whose units are stepped. -/
theorem stepped_eq {b : Block} (hk : 1 ≤ b.op 1) : (b.hasAddress && b.granule != some .device) = decide (b.op 1 ≤ 3 ∧ b.op 3 ≠ 4) := by
  rw [Bool.eq_iff_iff]
  unfold Block.hasAddress Block.granule Block.kindCode
  simp [granuleOf_eq_device, hk]

theorem hasAddress_eq {b : Block} (hk : 1 ≤ b.op 1) : b.hasAddress = decide (b.op 1 ≤ 3) := by
  unfold Block.hasAddress Block.kindCode
  simp [hk]

/-! ## Rows 5 to 15 of R35 by the bytes -/

/-- Row 6: the operand lengths of a kind. -/
theorem stepLengthOk_eq (b : Block) : b.stepLengthOk = (stepLengths (b.op 1) (b.op 2)).contains b.opLength := by
  unfold Block.stepLengthOk stepLengths Block.limitsFlag Block.kindCode
  generalize b.opLength = len
  rw [Bool.eq_iff_iff]
  match b.op 1 with
  | 1 | 2 =>
    match b.op 2 with
    | 0 | 1 | _ + 2 => simp [flagOf]
  | 0 | 3 | 4 | 5 | _ + 6 => simp

/-- Row 7: the code bytes of a kind, with the direction of a DEVICE step not read (R190). -/
theorem stepCodesOk_eq {b : Block} (hk : 1 ≤ b.op 1 ∧ b.op 1 ≤ 5) : (!b.stepCodesOk) =
    decide ((b.op 1 ≤ 3 ∧ b.op 3 ≠ 4 ∧ 1 < b.op 13) ∨ (b.op 1 = 1 ∧ (1 < b.op 18 ∨ 1 < b.op 2))
      ∨ (b.op 1 = 2 ∧ (3 < b.op 17 ∨ 1 < b.op 20 ∨ 1 < b.op 2)) ∨ (b.op 1 = 3 ∧ (3 < b.op 17 ∨ 1 < b.op 20))
      ∨ (b.op 1 = 5 ∧ 1 < b.op 5)) := by
  unfold Block.stepCodesOk Block.granule Block.direction Block.failAction Block.limitsFlag Block.dataMode Block.kindCode
  rw [Bool.eq_iff_iff]
  obtain hk | hk | hk | hk | hk : b.op 1 = 1 ∨ b.op 1 = 2 ∨ b.op 1 = 3 ∨ b.op 1 = 4 ∨ b.op 1 = 5 := by omega
  all_goals simp [hk, granuleOf_eq_device, directionOf_eq_none, dataModeOf_eq_none, failActionOf_eq_none, timeoutActionOf_eq_none,
    flagOf_eq_none]
  all_goals omega

/-- Row 8: the granules of a kind (R29). -/
theorem granuleRefused_eq {b : Block} (hk : 1 ≤ b.op 1) : (b.hasAddress && !b.granuleAllowed) =
    decide ((b.op 1 = 1 ∧ ¬ (2 ≤ b.op 3 ∧ b.op 3 ≤ 4)) ∨ (b.op 1 = 2 ∧ ¬ (1 ≤ b.op 3 ∧ b.op 3 ≤ 2))
      ∨ (b.op 1 = 3 ∧ ¬ (1 ≤ b.op 3 ∧ b.op 3 ≤ 3))) := by
  rw [hasAddress_eq hk]
  unfold Block.granuleAllowed Block.granule Block.kindCode
  match b.op 1, b.op 3, hk with
  | 1, 0, _ | 1, 1, _ | 1, 2, _ | 1, 3, _ | 1, 4, _ => rfl
  | 2, 0, _ | 2, 1, _ | 2, 2, _ | 2, 3, _ | 2, 4, _ => rfl
  | 3, 0, _ | 3, 1, _ | 3, 2, _ | 3, 3, _ | 3, 4, _ => rfl
  | 1, _ + 5, _ | 2, _ + 5, _ | 3, _ + 5, _ => simp [granuleOf]
  | _ + 4, _, _ => simp

/-- Rows 5 to 15 of the model's table are those of the operand's bytes, for a kind code that names a kind. -/
theorem stepRows_eq {b : Block} {s : State} {pr : Profile} (hp : s.store.profile = some pr) (hk : 1 ≤ b.op 1 ∧ b.op 1 ≤ 5) :
    (defineStepChecks b s).drop 4 = stepRefusals b pr := by
  have address := hasAddress_eq hk.1
  have stepped := stepped_eq hk.1
  have space := stepSpace_eq (b := b) hp
  unfold defineStepChecks stepRefusals
  simp only [List.drop_succ_cons, List.drop_zero, List.cons.injEq, Prod.mk.injEq, and_true]
  refine ⟨?kind, congrArg _ (stepLengthOk_eq b), stepCodesOk_eq hk, granuleRefused_eq hk.1, ?wrap, ?base, ?count, ?stride, ?repeats, ?limits,
    ?bin⟩
  case kind =>
    rw [Bool.eq_iff_iff]
    unfold Block.kindCode
    simp
  case wrap =>
    rw [stepped, space, Bool.eq_iff_iff]
    unfold Block.wrap codeSpace
    simp [and_assoc]
  case base =>
    rw [address, space, Block.base, opField_four, Bool.eq_iff_iff]
    unfold codeSpace
    simp
  case count =>
    rw [address, Block.count, Block.millis, opField_three, opField_two, Bool.eq_iff_iff]
    unfold Block.kindCode
    simp
  case stride =>
    rw [stepped, stepWindow, space, Block.stride, opField_two, Bool.eq_iff_iff]
    unfold Block.wrap codeSpace
    simp [and_assoc, or_assoc]
  case repeats =>
    rw [address, Block.repeats, opField_two, Bool.eq_iff_iff]
    simp
  case limits =>
    rw [Block.limits, opField_three, opField_three, Bool.eq_iff_iff]
    unfold Block.mayLimit Block.limitsFlag Block.limitsAt Limits.ordered Block.kindCode
    simp [flagOf_eq_true, Nat.add_assoc, and_assoc]
    omega
  case bin =>
    rw [address, Block.failBin, Bool.eq_iff_iff]
    unfold Block.kindCode
    simp

/-- A kind code that names no kind is refused by row 5. -/
theorem stepRows_unknown {b : Block} (s : State) (pr : Profile) (hk : ¬ (1 ≤ b.op 1 ∧ b.op 1 ≤ 5)) :
    firstRefusal ((defineStepChecks b s).drop 4) = some .kindUnknown ∧ firstRefusal (stepRefusals b pr) = some .kindUnknown := by
  have unnamed : (!decide (1 ≤ b.kindCode ∧ b.kindCode ≤ 5)) = true := by rw [Block.kindCode, decide_eq_false hk]; rfl
  exact ⟨if_pos unnamed, if_pos (decide_eq_true (by omega))⟩

/-- Rows 5 to 15 decide the same response in the model and by the operand's bytes. -/
theorem firstRefusal_stepRows {b : Block} {s : State} {pr : Profile} (hp : s.store.profile = some pr) :
    firstRefusal ((defineStepChecks b s).drop 4) = firstRefusal (stepRefusals b pr) := by
  by_cases hk : 1 ≤ b.op 1 ∧ b.op 1 ≤ 5
  · rw [stepRows_eq hp hk]
  · obtain ⟨model, bytes⟩ := stepRows_unknown s pr hk
    rw [model, bytes]

/-! ## Rows 1 to 4 -/

/-- Where a DEFINE-STEP may write its entry, rows 1 to 3 do not refuse, and row 4 comes next. -/
theorem firstRefusal_stepPlace {b : Block} {s : State} (h : StepPlace b s) : firstRefusal (defineStepChecks b s) =
    firstRefusal ((s.store.profile.isNone, .noProfile) :: (defineStepChecks b s).drop 4) := by
  obtain ⟨index, place⟩ := h
  have named : decide (127 < b.stepIndex) = false := decide_eq_false (Nat.not_lt.mpr index)
  have still : (s.run.seq == .running || s.run.seq == .pausing) = false := by
    rcases place with hs | ⟨hs, -⟩ <;> rw [hs] <;> rfl
  have ahead : (s.run.seq == .paused && decide (b.stepIndex ≤ s.run.current.getD 0)) = false := by
    rcases place with hs | ⟨hs, k, hk, lt⟩
    · rw [hs]; rfl
    · rw [hs, hk]
      exact decide_eq_false (Nat.not_le.mpr lt)
  exact (firstRefusal_next named).trans ((firstRefusal_next still).trans (firstRefusal_next ahead))

/-- An accepted DEFINE-STEP names an entry of the table. -/
theorem stepIndex_le {b : Block} {s : State} (h : firstRefusal (defineStepChecks b s) = none) : b.stepIndex ≤ 127 :=
  Nat.not_lt.mp (of_decide_eq_false (firstRefusal_none h).1)

/-- An entry of the step table after one has been written. -/
theorem writeStep_get {k : Nat} (hk : k ≤ 127) (rec : Option StepRecord) (s : State) (j : Nat) :
    (writeStep k rec s).store.steps[j]? = if j = k then some rec else s.store.steps[j]? := by
  show (s.store.steps.setIfInBounds k rec)[j]? = _
  rw [Vector.getElem?_setIfInBounds]
  by_cases hj : j = k
  · rw [if_pos hj.symm, if_pos hj, if_pos (by omega)]
  · rw [if_neg (Ne.symm hj), if_neg hj]

/-- Settles O9: rows 1 to 4 one after another, rows 5 to 15 by the operand's bytes, and the entry written when none refuses. -/
theorem stepDefined : Obligations.StepDefined := by
  rintro b s s0 ⟨⟨ht, hc⟩, hw⟩
  have served : exec .defineStep s = .next (defineStepOwner b s0) := congrArg _ (serve_served ht hc hw)
  rw [served]
  have refused {r : Response} (h : firstRefusal (defineStepChecks b s0) = some r) :
      Host.Outcome.next (defineStepOwner b s0) = (.next (respond b r s0) : Host.Outcome State Fault Refusal) :=
    congrArg _ (guarded_refused h)
  have accepted (h : firstRefusal (defineStepChecks b s0) = none) : Host.Outcome.next (defineStepOwner b s0)
      = (.next (respond b .ok (writeStep b.stepIndex (some (stepOperand b)) s0)) : Host.Outcome State Fault Refusal) :=
    congrArg _ (guarded_accepted h)
  have named (h : b.stepIndex ≤ 127) : decide (127 < b.stepIndex) = false := decide_eq_false (Nat.not_lt.mpr h)
  have rows {pr : Profile} (place : StepPlace b s0) (hp : s0.store.profile = some pr) :
      firstRefusal (defineStepChecks b s0) = firstRefusal (stepRefusals b pr) := by
    rw [firstRefusal_stepPlace place, firstRefusal_next (by rw [hp]; rfl), firstRefusal_stepRows hp]
  refine ⟨fun h => ⟨_, accepted h, fun k _ => writeStep_get (stepIndex_le h) _ _ k, rfl, rfl, rfl⟩,
    fun h => refused (if_pos (decide_eq_true h)), fun h run => refused ?_, fun k h paused current le => refused ?_,
    fun place hp => refused ?_, fun pr r place hp hr => refused ((rows place hp).trans hr), fun pr place hp hr => ?_⟩
  · refine (firstRefusal_next (named h)).trans (if_pos ?_)
    rcases run with hs | hs <;> rw [hs] <;> rfl
  · refine (firstRefusal_next (named h)).trans ((firstRefusal_next (by rw [paused]; rfl)).trans (if_pos ?_))
    rw [paused, current]
    exact decide_eq_true le
  · exact (firstRefusal_stepPlace place).trans (if_pos (by rw [hp]; rfl))
  · have clear := (rows place hp).trans hr
    exact ⟨_, accepted clear, (writeStep_get (stepIndex_le clear) _ _ _).trans (if_pos rfl)⟩

end Sys2Proof.Machine
end

section
/-! A visit: the class its figures give it, and what each class does (R49 to R55). -/

namespace Sys2Proof.Machine

/-- A unit lies in an exclusion window by its block, and a DEVICE's, which touches every block, when there is a window (R24, R25). -/
theorem inExclusion_iff (pr : Profile) (g : Granule) (un : Nat) : inExclusion pr g un = true ↔
    match g with
    | .page => ∃ w ∈ pr.windows, w.1 ≤ un / 2 ^ (pr.s + pr.b) ∧ un / 2 ^ (pr.s + pr.b) ≤ w.2
    | .sector => ∃ w ∈ pr.windows, w.1 ≤ un / 2 ^ pr.b ∧ un / 2 ^ pr.b ≤ w.2
    | .block => ∃ w ∈ pr.windows, w.1 ≤ un ∧ un ≤ w.2
    | .device => pr.windows ≠ [] := by
  cases g <;> simp [inExclusion, blockOf]

/-- A bad-block set bars no unit of a block that it does not hold, and no DEVICE's when it is empty (R24, R51). -/
theorem inBadBlocks_eq_false_iff (pr : Profile) (g : Granule) (un : Nat) (set : List Nat) : inBadBlocks pr g un set = false ↔
    match g with
    | .page => un / 2 ^ (pr.s + pr.b) ∉ set
    | .sector => un / 2 ^ pr.b ∉ set
    | .block => un ∉ set
    | .device => set = [] := by
  cases g <;> simp [inBadBlocks, blockOf]

/-- A site qualifies when it is ACTIVE, or RETIRED in a VERIFY that includes the RETIRED sites (R51, condition 1). -/
theorem qualifies_iff (s : State) (i : Site) : qualifies s i = true ↔ s.sites[i].state = .active
    ∨ (s.sites[i].state = .retired ∧ ∃ a data bin, s.run.record = some (.verify a data bin true)) := by
  unfold qualifies
  split
  next h => exact iff_of_true rfl (.inl h)
  next a data bin included h hr =>
    constructor
    · rintro rfl
      exact .inr ⟨h, a, data, bin, hr⟩
    · rintro (ha | ⟨-, _, _, _, hv⟩)
      · exact nomatch h.symm.trans ha
      · cases hr.symm.trans hv
        rfl
  next hna hnv =>
    refine ⟨nofun, ?_⟩
    rintro (h | ⟨h, a, data, bin, hr⟩)
    · exact absurd h hna
    · exact absurd hr (hnv a data bin true h)

/-- A request handed to an idle HCI with nothing to send goes out at once; ABANDON has effects of its own (R10). -/
theorem handRequest_quiet {r : Request} {s : State} (h : HciQuiet s) (hr : r ≠ .abandon) :
    handRequest r s = sendRequest r { s with hci := { s.hci with held := none } } := by
  obtain ⟨ho, hh, hd⟩ := h
  unfold handRequest hciPump hciDue
  simp only [ho, hd, hr, ne_eq, not_true_eq_false, if_false, Option.getD_some]

@[simp] theorem clearUnitFailed_site (s : State) (i : Site) :
    (clearUnitFailed s).sites[i] = { s.sites[i] with unitFailed := false } := mapSites_get i _ s

theorem visitRequest_ne_abandon (s : State) (un : Nat) (mask : SiteMask) : visitRequest s un mask ≠ .abandon := by
  unfold visitRequest
  dsimp only
  split <;> nofun

/-- A NORMAL visit issued to a quiet HCI: its unit in flight, its request sent, and the unit-failed marks cleared (R52, R55, R102). -/
theorem issueVisit_quiet (un : Nat) (mask : SiteMask) {s : State} (h : HciQuiet s) :
    ∃ f : Flight, f.unit = un ∧ f.rep = s.uag.r ∧ f.mask = mask ∧ issueVisit un mask s =
      sendRequest (visitRequest s un mask) { clearUnitFailed s with
        run := { s.run with issued := s.run.issued + 1, inflight := some f }, hci := { s.hci with held := none } } := by
  unfold issueVisit
  dsimp only
  rw [handRequest_quiet (s := { clearUnitFailed s with run := _ }) h (visitRequest_ne_abandon _ _ _)]
  exact ⟨_, rfl, rfl, rfl, rfl⟩

/-- The state of a visit that has been produced and not yet classified. -/
def produce (s : State) : State := s.withRun { s.run with produced := s.run.produced + 1 }

/-- A visit by its class: EXCLUDED first, then NO SITE, then NORMAL. -/
theorem takeVisit_eq (un : Nat) (s : State) : takeVisit un s =
    if visitExcluded s un then s.withRun { s.run with produced := s.run.produced + 1, excluded := s.run.excluded + 1 }
    else if visitMask s s.uag.load.granule un = 0 then
      s.withRun { s.run with produced := s.run.produced + 1, noSite := s.run.noSite + 1 }
    else issueVisit un (visitMask s s.uag.load.granule un) (produce s) := rfl

/-- Settles O40: the figures of a visit, and the three branches they choose between. -/
theorem visitsClassed : Obligations.VisitsClassed := by
  intro un s
  refine ⟨?_, fun gr i => ?_, fun hex => ?_, fun hex hmask => ?_, fun hex hmask hq => ?_⟩
  · unfold visitExcluded
    rw [Bool.and_eq_true, bne_iff_ne]
    exact and_congr Iff.rfl (inExclusion_iff _ _ _)
  · have named : (visitMask s gr un).getLsbD i = _ := inMask_maskOf _ i
    rw [named, Bool.and_eq_true, Bool.and_eq_true, Bool.not_eq_true', and_assoc]
    exact and_congr Iff.rfl (and_congr (qualifies_iff s i) (inBadBlocks_eq_false_iff _ _ _ _))
  · rw [takeVisit_eq, if_pos hex]
  · rw [takeVisit_eq, if_neg (Bool.eq_false_iff.mp hex), if_pos hmask]
  · obtain ⟨f, unit, rep, mask, issued⟩ := issueVisit_quiet un (visitMask s s.uag.load.granule un) (s := produce s) hq
    rw [takeVisit_eq, if_neg (Bool.eq_false_iff.mp hex), if_neg hmask, issued]
    exact ⟨rfl, rfl, rfl, rfl, ⟨f, rfl, unit, rep, mask⟩, rfl, fun i => clearUnitFailed_site (produce s) i⟩

end Sys2Proof.Machine
end

section
/-! The units of a step: one unit after another inside the window, and the visits of a pass (R44 to R47). -/

namespace Sys2Proof.Machine

/-! ## The next unit -/

/-- Every unit that follows another lies in the window (R45). -/
theorem nextUnit_window (l : UagLoad) (u : Nat) : l.h ≤ nextUnit l u ∧ nextUnit l u < l.h + 2 ^ l.w := by
  have inside (n : Nat) : n % 2 ^ l.w < 2 ^ l.w := Nat.mod_lt _ (Nat.two_pow_pos _)
  unfold nextUnit
  cases l.dir with
  | up => exact ⟨Nat.le_add_right _ _, Nat.add_lt_add_left (inside _) _⟩
  | down => exact ⟨Nat.le_add_right _ _, Nat.add_lt_add_left (inside _) _⟩

/-- The offset in its window of a unit counted from the window's base. -/
theorem offset_mod {h size : Nat} (hh : h % size = 0) (off : Nat) : (h + off) % size = off % size := by
  rw [Nat.add_mod, hh, Nat.zero_add, Nat.mod_mod]

theorem nextUnit_up {l : UagLoad} (hd : l.dir = .up) (hh : l.h % 2 ^ l.w = 0) (off : Nat) :
    nextUnit l (l.h + off) = l.h + (off + l.e) % 2 ^ l.w := by
  simp only [nextUnit, hd, offset_mod hh, Nat.mod_add_mod]

theorem nextUnit_down {l : UagLoad} {off : Nat} (hd : l.dir = .down) (hh : l.h % 2 ^ l.w = 0) (hoff : off < 2 ^ l.w) :
    nextUnit l (l.h + off) = l.h + (off + 2 ^ l.w - l.e) % 2 ^ l.w := by
  simp only [nextUnit, hd, offset_mod hh, Nat.mod_eq_of_lt hoff]

/-- Stepping down by less than a window's size from an offset: below the base it comes in again at the top. -/
theorem sub_mod_window {size off e : Nat} (hoff : off < size) (he : e < size) :
    (off + size - e) % size = if off < e then off + size - e else off - e := by
  split
  next below => exact Nat.mod_eq_of_lt (by omega)
  next above =>
    rw [show off + size - e = off - e + size by omega, Nat.add_mod_right]
    exact Nat.mod_eq_of_lt (by omega)

/-- A window begins at a multiple of its size. -/
theorem windowBase_mod {l : UagLoad} (hh : l.h = l.base - l.base % 2 ^ l.w) : l.h % 2 ^ l.w = 0 := by
  rw [hh]
  exact Nat.sub_mod_eq_zero_of_mod_eq (Nat.mod_mod _ _).symm

/-- The base lies in its window, at its own offset. -/
theorem base_eq_offset {l : UagLoad} (hh : l.h = l.base - l.base % 2 ^ l.w) : l.base = l.h + l.base % 2 ^ l.w := by
  have : l.base % 2 ^ l.w ≤ l.base := Nat.mod_le _ _
  omega

/-- Every unit stepped from the base lies in the window of the base (R45). -/
theorem iterate_nextUnit_window {l : UagLoad} (hh : l.h = l.base - l.base % 2 ^ l.w) (n : Nat) :
    l.h ≤ (nextUnit l)^[n] l.base ∧ (nextUnit l)^[n] l.base < l.h + 2 ^ l.w := by
  cases n with
  | zero =>
    have base := base_eq_offset hh
    have inside : l.base % 2 ^ l.w < 2 ^ l.w := Nat.mod_lt _ (Nat.two_pow_pos _)
    exact ⟨show l.h ≤ l.base by omega, show l.base < l.h + 2 ^ l.w by omega⟩
  | succ n =>
    rw [Function.iterate_succ_apply']
    exact nextUnit_window l _

/-- The unit n steps up from the base (R45). -/
theorem iterate_nextUnit_up {l : UagLoad} (hh : l.h = l.base - l.base % 2 ^ l.w) (hd : l.dir = .up) (n : Nat) :
    (nextUnit l)^[n] l.base = l.h + (l.base % 2 ^ l.w + n * l.e) % 2 ^ l.w := by
  induction n with
  | zero =>
    rw [Nat.zero_mul, Nat.add_zero, Nat.mod_mod]
    exact base_eq_offset hh
  | succ n ih => rw [Function.iterate_succ_apply', ih, nextUnit_up hd (windowBase_mod hh), Nat.mod_add_mod, Nat.add_assoc, Nat.succ_mul]

/-! ## The visits of a pass -/

/-- The UAG once it has answered `k + 1` of the requests of a pass: repeat, visit and unit (R44). -/
def atVisit (x : Uag) (k : Nat) : Uag :=
  { x with r := k / x.load.count + 1, v := k % x.load.count + 1, u := some ((nextUnit x.load)^[k % x.load.count] x.load.base) }

theorem advances_succ (k : Nat) (x : Uag) : advances (k + 1) x = (advanceUag (advances k x)).1 := by
  induction k generalizing x with
  | zero => rfl
  | succ k ih => exact ih (advanceUag x).1

/-- The quotient and the remainder of the next number, when its remainder does not wrap. -/
theorem succ_divMod_of_lt {k n : Nat} (h : k % n + 1 < n) : (k + 1) / n = k / n ∧ (k + 1) % n = k % n + 1 :=
  (Nat.div_mod_unique (by omega)).mpr ⟨by have := Nat.mod_add_div k n; omega, h⟩

/-- The quotient and the remainder of the next number, when its remainder wraps. -/
theorem succ_divMod_of_eq {k n : Nat} (h : k % n + 1 = n) : (k + 1) / n = k / n + 1 ∧ (k + 1) % n = 0 :=
  (Nat.div_mod_unique (by omega)).mpr ⟨by have := Nat.mod_add_div k n; rw [Nat.mul_succ]; omega, by omega⟩

/-- The first request of a pass is answered with the base (R44). -/
theorem advanceUag_first {x : Uag} (he : x.ended = false) (hr : x.r = 0) :
    advanceUag x = ({ x with r := 1, v := 1, u := some x.load.base }, some x.load.base) := by
  simp [advanceUag, he, hr]

/-- Inside a repeat the answer is the next unit (R44). -/
theorem advanceUag_inside {x : Uag} {un : Nat} (he : x.ended = false) (hr : x.r ≠ 0) (hv : x.v < x.load.count) (hu : x.u = some un) :
    advanceUag x = ({ x with v := x.v + 1, u := some (nextUnit x.load un) }, some (nextUnit x.load un)) := by
  simp [advanceUag, he, hr, hv, hu]

/-- After the last visit of a repeat the next repeat begins at the base (R47). -/
theorem advanceUag_again {x : Uag} (he : x.ended = false) (hr : x.r ≠ 0) (hv : x.v = x.load.count) (hm : x.r < x.load.repeats) :
    advanceUag x = ({ x with r := x.r + 1, v := 1, u := some x.load.base }, some x.load.base) := by
  simp [advanceUag, he, hr, hv, hm]

/-- After the last visit of the last repeat the sequence has ended (R44). -/
theorem advanceUag_end {x : Uag} (he : x.ended = false) (hr : x.r ≠ 0) (hv : x.v = x.load.count) (hm : x.r = x.load.repeats) :
    advanceUag x = ({ x with ended := true }, none) := by
  rw [hm] at hr
  simp [advanceUag, he, hr, hv, hm]

/-- One visit of a pass after another: the next unit inside a repeat, and the base where a repeat begins (R44, R47). -/
theorem advanceUag_atVisit {x : Uag} {k : Nat} (he : x.ended = false) (hn : 1 ≤ x.load.count)
    (hk : k + 1 < x.load.count * x.load.repeats) :
    advanceUag (atVisit x k) =
      (atVisit x (k + 1), some ((nextUnit x.load)^[(k + 1) % x.load.count] x.load.base)) := by
  have visit : k % x.load.count < x.load.count := Nat.mod_lt _ hn
  by_cases inside : k % x.load.count + 1 < x.load.count
  · obtain ⟨quotient, remainder⟩ := succ_divMod_of_lt inside
    rw [advanceUag_inside (x := atVisit x k) he (Nat.succ_ne_zero _) inside rfl]
    simp only [atVisit, quotient, remainder, Function.iterate_succ_apply']
  · have last : k % x.load.count + 1 = x.load.count := by omega
    obtain ⟨quotient, remainder⟩ := succ_divMod_of_eq last
    have again : k / x.load.count + 1 < x.load.repeats := quotient ▸ Nat.div_lt_of_lt_mul hk
    rw [advanceUag_again (x := atVisit x k) he (Nat.succ_ne_zero _) last again]
    simp only [atVisit, quotient, remainder, Function.iterate_zero, id_eq, Nat.zero_add]

/-- After the last visit of a pass the sequence has ended (R44, R46). -/
theorem advanceUag_atLastVisit {x : Uag} {k : Nat} (he : x.ended = false) (hn : 1 ≤ x.load.count)
    (hk : k + 1 = x.load.count * x.load.repeats) : (advanceUag (atVisit x k)).2 = none := by
  have wrap : (k + 1) % x.load.count = 0 := by rw [hk, Nat.mul_mod_right]
  have last : k % x.load.count + 1 = x.load.count := by
    have visit : k % x.load.count < x.load.count := Nat.mod_lt _ hn
    by_contra other
    have := (succ_divMod_of_lt (k := k) (n := x.load.count) (by omega)).2
    omega
  have repeats : k / x.load.count + 1 = x.load.repeats := by
    rw [← (succ_divMod_of_eq last).1, hk, Nat.mul_div_cancel_left _ hn]
  rw [advanceUag_end (x := atVisit x k) he (Nat.succ_ne_zero _) last repeats]

/-- The UAG after any number of the requests of a pass. -/
theorem advances_eq_atVisit {x : Uag} (he : x.ended = false) (hr : x.r = 0) (hn : 1 ≤ x.load.count) {k : Nat}
    (hk : k < x.load.count * x.load.repeats) : advances (k + 1) x = atVisit x k := by
  induction k with
  | zero =>
    have first : atVisit x 0 = { x with r := 1, v := 1, u := some x.load.base } := by
      simp only [atVisit, Nat.zero_div, Nat.zero_mod, Nat.zero_add, Function.iterate_zero, id_eq]
    exact (congrArg Prod.fst (advanceUag_first he hr)).trans first.symm
  | succ k ih => rw [advances_succ, ih (by omega), advanceUag_atVisit he hn hk]

/-- The answer to each request of a pass (R44, R46). -/
theorem advanceUag_advances {x : Uag} (he : x.ended = false) (hr : x.r = 0) (hn : 1 ≤ x.load.count) {k : Nat}
    (hk : k < x.load.count * x.load.repeats) :
    (advanceUag (advances k x)).2 = some ((nextUnit x.load)^[k % x.load.count] x.load.base) := by
  cases k with
  | zero =>
    show (advanceUag x).2 = _
    rw [advanceUag_first he hr, Nat.zero_mod]
    rfl
  | succ k => rw [advances_eq_atVisit he hr hn (by omega), advanceUag_atVisit he hn hk]

/-- The request after the last visit of a pass is answered with the end of the sequence (R44, R46). -/
theorem advanceUag_advances_all {x : Uag} (he : x.ended = false) (hr : x.r = 0) (hn : 1 ≤ x.load.count)
    (hm : 1 ≤ x.load.repeats) : (advanceUag (advances (x.load.count * x.load.repeats) x)).2 = none := by
  obtain ⟨k, hk⟩ := Nat.exists_eq_add_of_le' (Nat.mul_pos hn hm)
  rw [hk, advances_eq_atVisit he hr hn (by omega)]
  exact advanceUag_atLastVisit he hn hk.symm

/-- Settles O38: the visits by induction along a pass, the units by the offset in the window. -/
theorem unitSequence : Obligations.UnitSequence := by
  refine ⟨fun x he hr hn hm => ⟨fun k hk => ?_, advanceUag_advances_all he hr hn hm⟩, fun l off hh hoff hstep => ?_,
    fun l n hh => iterate_nextUnit_window hh n, fun l n hh hd => iterate_nextUnit_up hh hd n⟩
  · rw [advances_eq_atVisit he hr hn hk]
    exact ⟨advanceUag_advances he hr hn hk, rfl, rfl⟩
  · refine ⟨fun hd => nextUnit_up hd hh off, fun hd => ?_, nextUnit_window l _⟩
    rw [nextUnit_down hd hh hoff, sub_mod_window hoff hstep]

end Sys2Proof.Machine
end

section
/-! The next action of a RUNNING run that waits for nothing at the head, stage by stage (R63 to R71). -/

namespace Sys2Proof.Machine

/-! ## Settling in two actions -/

theorem settleFor_next {s t : State} (h : nextAction s = some t) (fuel : Nat) : settleFor (fuel + 1) s = settleFor fuel t := by
  simp only [settleFor, h]

/-- Two actions that leave nothing due settle the card. -/
theorem settle_twice {s t u : State} (hs : nextAction s = some t) (ht : nextAction t = some u) (hu : nextAction u = none) :
    settle s = u := by
  have hf : settleFuel = (2 ^ 37 - 2) + 1 + 1 := by decide
  unfold settle
  rw [hf, settleFor_next hs, settleFor_next ht]
  exact settleFor_rest hu _

/-- A run whose end has sent its ABANDON has nothing due. -/
theorem endRun_quiet_rest {s : State} {cause : EndCause} (hq : HciQuiet s) (hr : s.run.seq ≠ .idle) (he : s.run.ending = none)
    (hc : cause ≠ .complete) (hn : cause ≠ .noSites) : nextAction (endRun cause s) = none := by
  obtain ⟨run, ⟨sent, -, -⟩, -⟩ := endRun_quiet hq hr he hc hn
  have busy : abandonBusy (endRun cause s).hci = true := by simp [abandonBusy, Hci.awaiting, sent, Request.kind]
  refine nextAction_none (hciDue_awaiting sent) (unitDue_none (by rw [run])) (teardown_waits (cause := cause) ?_ ?_ ?_ busy)
  · rw [run]; exact hr
  · rw [run]
  · rw [run]

/-! ## A free run -/

/-- A RUNNING run that is not ending, the HCI quiet and no unit in flight: its next action is the sequencer's. -/
structure FreeRun (s : State) : Prop where
  running : s.run.seq = .running
  notEnding : s.run.ending = none
  quiet : HciQuiet s
  noUnit : s.run.inflight = none

theorem FreeRun.notIdle {s : State} (h : FreeRun s) : s.run.seq ≠ .idle := by rw [h.running]; nofun

/-- A run stays free while its state, its end cause, its unit in flight and the HCI stay. -/
theorem FreeRun.of_eq {s t : State} (h : FreeRun s) (seq : t.run.seq = s.run.seq) (ending : t.run.ending = s.run.ending)
    (inflight : t.run.inflight = s.run.inflight) (hci : t.hci = s.hci) : FreeRun t where
  running := seq.trans h.running
  notEnding := ending.trans h.notEnding
  quiet := by unfold HciQuiet; rw [hci]; exact h.quiet
  noUnit := inflight.trans h.noUnit

theorem FreeRun.next {s : State} (h : FreeRun s) : nextAction s = runningDue s := by
  obtain ⟨-, held, drop⟩ := h.quiet
  unfold nextAction sequencerDue
  rw [hciDue_empty held drop, unitDue_none h.noUnit, h.running, h.notEnding]

theorem FreeRun.settled {s : State} (h : FreeRun s) (hd : runningDue s = none) : settle s = s := settle_rest (h.next.trans hd)

/-- A quiet HCI has no DROP under way. -/
theorem dropBusy_quiet {s : State} (h : HciQuiet s) : dropBusy s.hci = false := by
  obtain ⟨out, -, drop⟩ := h
  simp [dropBusy, Hci.awaiting, out, drop]

/-! ## A frame handed over -/

theorem handFrame_link (f : Frame) (s : State) : handFrame f s = s.withLink (handFrame f s).link := by
  unfold handFrame
  split <;> rfl

theorem handFrame_hci (f : Frame) (s : State) : (handFrame f s).hci = s.hci := by rw [handFrame_link]; rfl
theorem handFrame_run (f : Frame) (s : State) : (handFrame f s).run = s.run := by rw [handFrame_link]; rfl
theorem handFrame_peers (f : Frame) (s : State) : (handFrame f s).peers = s.peers := by rw [handFrame_link]; rfl
theorem handFrame_rail (f : Frame) (s : State) : (handFrame f s).rail = s.rail := by rw [handFrame_link]; rfl
theorem handFrame_sync (f : Frame) (s : State) : (handFrame f s).sync = s.sync := by rw [handFrame_link]; rfl

theorem handFrame_own (f : Frame) (s : State) : (handFrame f s).link.own = s.link.own := by
  unfold handFrame
  split <;> rfl

theorem handFrame_out {f : Frame} {s : State} (h : linkSends s = true) : (handFrame f s).link.out = s.link.out.put f := by
  unfold handFrame
  rw [if_pos h]

/-! ## What is due, by the stage -/

theorem runningDue_enter {s : State} {k : Nat} {rec : StepRecord} (hs : s.run.stage = .enter k)
    (hrec : (s.store.steps[k]?).join = some rec) : runningDue s = some (enterStep k rec s) := by
  unfold runningDue
  rw [hs]
  show enterDue k s = _
  unfold enterDue
  rw [hrec]

theorem runningDue_begin {s : State} {rec : StepRecord} (hs : s.run.stage = .begin) (hrec : s.run.record = some rec) :
    runningDue s = some (beginPhase rec s) := by
  unfold runningDue
  rw [hs, hrec]
  rfl

theorem runningDue_passStart {s : State} (hs : s.run.stage = .passStart) : runningDue s = some (startPass s) := by
  unfold runningDue
  rw [hs]

theorem runningDue_reenter {s : State} {fromSupply : Bool} (hs : s.run.stage = .reenter fromSupply) :
    runningDue s = if reentryWaits s then none else some (reenterSupply fromSupply s) := by
  unfold runningDue
  rw [hs]

theorem runningDue_supply {s : State} (hs : s.run.stage = .supply) :
    runningDue s = if s.rail.st = .holding ∧ s.rail.givingUp = false then some (beginClaimedPass s) else none := by
  unfold runningDue
  rw [hs]

/-- A claim is awaited in SUPPLY until the station holds the rail with no give-up under way (R65, R80). -/
theorem runningDue_supply_waits {s : State} (hs : s.run.stage = .supply) (hw : s.rail.st ≠ .holding ∨ s.rail.givingUp = true) :
    runningDue s = none := by
  refine (runningDue_supply hs).trans (if_neg ?_)
  rintro ⟨holding, still⟩
  rcases hw with hw | hw
  · exact hw holding
  · exact Bool.false_ne_true (still.symm.trans hw)

theorem runningDue_closing {s : State} (hs : s.run.stage = .closing) :
    runningDue s = if s.rail.st = .none then some (s.withRun { s.run with stage := .passStart }) else none := by
  unfold runningDue
  rw [hs]
  rfl

theorem runningDue_exit {s : State} (hs : s.run.stage = .exit) :
    runningDue s = if s.rail.st = .none then some (exitStep s) else none := by
  unfold runningDue
  rw [hs]

/-- A run that awaits the CONTACT reply, its dwell time or its sync marks has nothing due. -/
theorem runningDue_waiting {s : State} (hs : s.run.stage = .contact ∨ s.run.stage = .dwell ∨ s.run.stage = .sync) :
    runningDue s = none := by
  unfold runningDue
  rcases hs with hs | hs | hs <;> rw [hs]

/-- In the visits of a pass: the next advance request, and after the last one the end of the pass. -/
theorem FreeRun.due_visits {s : State} (h : FreeRun s) (hs : s.run.stage = .visits) :
    runningDue s = if s.uag.ended then some (endPass s) else if s.uag.loaded then some (advanceVisit s) else none := by
  unfold runningDue
  rw [hs]
  simp only [h.noUnit, dropBusy_quiet h.quiet, Option.isSome_none, Bool.false_eq_true, if_false]

/-! ## Exit, pass end and the visits' begin -/

/-- A completed exit: COMPLETE after the last step of the run, the next index otherwise (R71). -/
theorem FreeRun.exitStep_eq {s : State} (h : FreeRun s) {k : Nat} (hk : s.run.current = some k) : exitStep s =
    if s.run.last ≤ k then s.withRun { s.run with
      stepsCompleted := s.run.stepsCompleted + 1, pass := 0, ending := some .complete, teardown := .abandon }
    else s.withRun { s.run with stepsCompleted := s.run.stepsCompleted + 1, pass := 0, phase := .entry, stage := .enter (k + 1) } := by
  unfold exitStep
  rw [hk, Option.getD_some]
  refine if_congr Iff.rfl ?_ rfl
  exact (endRun_taken (s := s.withRun { s.run with stepsCompleted := s.run.stepsCompleted + 1, pass := 0 })
    .complete h.notIdle h.notEnding).trans (if_pos (.inl rfl))

/-- The UAG restarted (R43). -/
def restartedUag (x : Uag) : Uag := { x with r := 0, v := 0, u := none, ended := false }

theorem runVisits_restarted {s : State} (p : Phase) (hr : s.run.restarted = true) :
    runVisits p s = s.withRun { s.run with phase := p, stage := .visits } := if_pos hr

/-- A pass that has not been restarted restarts the UAG with its visits (R43, R65). -/
theorem runVisits_first {s : State} (p : Phase) (hr : s.run.restarted = false) (hl : s.uag.loaded = true) : runVisits p s =
    (s.withUag (restartedUag s.uag)).withRun { s.run with phase := p, stage := .visits, restarted := true } := by
  refine (if_neg (Bool.eq_false_iff.mp hr)).trans ?_
  unfold restartUag
  rw [if_pos hl]
  rfl

/-- The run record once a pass has ended: EXIT after the last pass, otherwise a stage before the next one (R68). -/
def passOver (before : Stage) (r : Run) : Run :=
  if r.passes ≤ r.pass then { r with phase := .exit, stage := .exit } else { r with stage := before }

theorem passOver_keeps (before : Stage) (r : Run) :
    (passOver before r).seq = r.seq ∧ (passOver before r).ending = r.ending ∧ (passOver before r).inflight = r.inflight := by
  unfold passOver
  split <;> exact ⟨rfl, rfl, rfl⟩

theorem passOver_stage (before : Stage) (r : Run) : (passOver before r).stage = .exit ∨ (passOver before r).stage = before := by
  unfold passOver
  split
  · exact .inl rfl
  · exact .inr rfl

/-- A pass that made no claim ends without a RELEASE (R68). -/
theorem endPass_unclaimed {s : State} (hd : s.run.passDemand = 0) : endPass s = s.withRun (passOver .passStart s.run) := by
  unfold endPass enterExit passOver
  simp only [hd, bne_self_eq_false, Bool.false_eq_true, if_false]
  split <;> rfl

theorem releasePass_run (s : State) : (releasePass s).run = s.run := by
  obtain ⟨l, p, r, y, h⟩ := linkSideOnly_releasePass s
  rw [h]

/-- A pass that made a claim ends with its release, and the next pass waits for it (R68). -/
theorem endPass_claimed {s : State} (hd : s.run.passDemand ≠ 0) :
    endPass s = (releasePass s).withRun (passOver .closing s.run) := by
  have claimed : (s.run.passDemand != 0) = true := bne_iff_ne.mpr hd
  unfold endPass enterExit passOver
  simp only [claimed, if_true, releasePass_run]
  split <;> rfl

/-- The station without a demand of its own any more (R148). -/
def demandCleared (s : State) : State := s.withRail { s.rail with ownDemand := none }

/-- The release of a pass: RELEASE of what the station holds (R148). -/
theorem releasePass_holding {s : State} (h : s.rail.st = .holding) :
    releasePass s = handFrame (.release s.peers[s.link.own].held) (demandCleared s) := if_pos h

/-- A pass that made a claim has ended: its RELEASE stands in the outgoing set, and what comes next waits for it (R68, R148). -/
theorem FreeRun.settle_endPass {s : State} (h : FreeRun s) (hs : s.run.stage = .visits) (hu : s.uag.ended = true)
    (hd : s.run.passDemand ≠ 0) (hr : s.rail.st = .holding) (hl : linkSends s = true) :
    (settle s).link.out.release = some s.peers[s.link.own].held ∧ (settle s).rail = { s.rail with ownDemand := none }
    ∧ (settle s).run = passOver .closing s.run := by
  have ended : endPass s =
      (handFrame (.release s.peers[s.link.own].held) (demandCleared s)).withRun (passOver .closing s.run) := by
    rw [endPass_claimed hd, releasePass_holding hr]
  have rail : (endPass s).rail = { s.rail with ownDemand := none } := by rw [ended]; exact handFrame_rail _ _
  have run : (endPass s).run = passOver .closing s.run := by rw [ended]; rfl
  have held : (endPass s).rail.st ≠ .none := by rw [rail, hr]; nofun
  have rest : nextAction (endPass s) = none := by
    obtain ⟨seq, ending, inflight⟩ := passOver_keeps .closing s.run
    rw [← run] at seq ending inflight
    refine (h.of_eq seq ending inflight (by rw [ended]; exact handFrame_hci _ _)).next.trans ?_
    rcases passOver_stage .closing s.run with stage | stage <;> rw [← run] at stage
    · exact (runningDue_exit stage).trans (if_neg held)
    · exact (runningDue_closing stage).trans (if_neg held)
  rw [settle_once (h.next.trans ((h.due_visits hs).trans (if_pos hu))) rest]
  refine ⟨?_, rail, run⟩
  rw [ended]
  exact congrArg Outgoing.release (handFrame_out (s := demandCleared s) hl)

/-! ## The first phase of a step -/

/-- A VERIFY step begins with its visits (R63). -/
theorem beginPhase_verify {s : State} {a : AddrPart} {data : DataPart} {bin : Nat} {inc : Bool} (hl : s.uag.loaded = true) :
    beginPhase (.verify a data bin inc) s = (s.withUag (restartedUag s.uag)).withRun { s.run with
      phase := .compare, stage := .visits, pass := 1, restarted := true } :=
  runVisits_first (s := s.withRun { s.run with pass := 1, restarted := false }) .compare rfl hl

/-- The first phase of an ERASE or PROGRAM step goes by whether it draws rail (R63, R64). -/
theorem beginPhase_drawing {s : State} {rec : StepRecord} (hrec : s.run.record = some rec)
    (hf : firstPhaseOf s.profile rec = .operate ∨ firstPhaseOf s.profile rec = .supply) : beginPhase rec s =
    if stepDraw s.profile rec = 0 then runVisits .operate (s.withRun { s.run with pass := 1, restarted := false })
    else s.withRun { s.run with stage := .passStart } := by
  have draw : currentDraw s = stepDraw s.profile rec := by unfold currentDraw; rw [hrec]
  cases rec with
  | erase | program => rw [← draw]; rfl
  | verify | dwell | sync => rcases hf with hf | hf <;> exact nomatch hf

/-- A step that begins in OPERATE draws no rail, one that begins in SUPPLY does. -/
theorem stepDraw_of_firstPhase {pr : Profile} {rec : StepRecord} :
    (firstPhaseOf pr rec = .operate → stepDraw pr rec = 0) ∧ (firstPhaseOf pr rec = .supply → stepDraw pr rec ≠ 0) := by
  cases rec with
  | erase | program =>
    refine ⟨fun h => by_contra fun hd => ?_, fun h hd => ?_⟩
    · exact nomatch h.symm.trans (if_neg hd)
    · exact nomatch h.symm.trans (if_pos hd)
  | verify | dwell | sync => exact ⟨nofun, nofun⟩

theorem beginPhase_operate {s : State} {rec : StepRecord} (hrec : s.run.record = some rec)
    (hf : firstPhaseOf s.profile rec = .operate) (hl : s.uag.loaded = true) :
    beginPhase rec s = (s.withUag (restartedUag s.uag)).withRun { s.run with
      phase := .operate, stage := .visits, pass := 1, restarted := true } := by
  rw [beginPhase_drawing hrec (.inl hf), if_pos (stepDraw_of_firstPhase.1 hf)]
  exact runVisits_first (s := s.withRun { s.run with pass := 1, restarted := false }) .operate rfl hl

theorem beginPhase_supply {s : State} {rec : StepRecord} (hrec : s.run.record = some rec)
    (hf : firstPhaseOf s.profile rec = .supply) : beginPhase rec s = s.withRun { s.run with stage := .passStart } := by
  rw [beginPhase_drawing hrec (.inr hf), if_neg (stepDraw_of_firstPhase.2 hf)]

/-- A DWELL step loads its time and waits (R69). -/
theorem FreeRun.settle_dwell {s : State} (h : FreeRun s) {time : Nat} (hs : s.run.stage = .begin)
    (hrec : s.run.record = some (.dwell time)) :
    settle s = s.withRun { s.run with phase := .dwell, stage := .dwell, dwellRem := time * 100 } := by
  have dwells : FreeRun (s.withRun { s.run with phase := .dwell, stage := .dwell, dwellRem := time * 100 }) :=
    h.of_eq rfl rfl rfl rfl
  exact settle_once (h.next.trans (runningDue_begin hs hrec)) (dwells.next.trans (runningDue_waiting (.inr (.inl rfl))))

/-- The run record once a SYNC step has begun its time (R70). -/
def syncRun (time : Nat) (r : Run) : Run :=
  { r with phase := .sync, stage := .sync, syncRem := if time = 0 then none else some (time * 100) }

/-- A SYNC step of a station that is no member is passed at once (R161, R162). -/
theorem FreeRun.beginPhase_syncAlone {s : State} (h : FreeRun s) {time : Nat} {act : TimeoutAction} (hg : s.sync.ownGroup = none) :
    beginPhase (.sync time act) s = s.withRun { syncRun time s.run with phase := .exit, stage := .exit } := by
  show markStep (s.withRun (syncRun time s.run)) = _
  have alone : (s.withRun (syncRun time s.run)).sync.ownGroup = none := hg
  have running : (s.withRun (syncRun time s.run)).run.seq = .running := h.running
  have here : (s.withRun (syncRun time s.run)).run.ending = none ∧ (s.withRun (syncRun time s.run)).run.stage = .sync :=
    ⟨h.notEnding, rfl⟩
  unfold markStep
  rw [alone]
  show syncPassed (s.withRun (syncRun time s.run)) = _
  unfold syncPassed
  rw [running]
  exact if_pos here

/-- The passing condition reads the peer table and the own station (R161). -/
theorem passingCondition_congr {s t : State} (peers : t.peers = s.peers) (own : t.link.own = s.link.own) (g : Group) (m : Nat) :
    passingCondition t g m = passingCondition s g m := by
  unfold passingCondition atMark
  rw [peers, own]

/-- A station whose condition does not hold goes on waiting (R161). -/
theorem evaluateSync_waits {s : State} {g : Group} {m : Nat} (ha : s.sync.awaited = some m) (hg : s.sync.ownGroup = some g)
    (hc : passingCondition s g m = false) : evaluateSync s = s := by
  unfold evaluateSync
  rw [ha, waitGroup_of_member hg]
  exact if_neg (Bool.eq_false_iff.mp hc)

/-- The Sync Unit once a SYNC step has been marked (R161). -/
def markedSync (x : SyncUnit) : SyncUnit := { x with markCount := x.markCount + 1, awaited := some (x.markCount + 1), markCarried := false }

/-- A SYNC step of a member is marked: its time begins, its MARK is handed over, and it waits while the condition does not hold (R161). -/
theorem beginPhase_syncMember {s : State} {time : Nat} {act : TimeoutAction} {g : Group} (hg : s.sync.ownGroup = some g)
    (hc : passingCondition s g (s.sync.markCount + 1) = false) : beginPhase (.sync time act) s =
      handFrame (.mark g (s.sync.markCount + 1)) ((s.withRun (syncRun time s.run)).withSync (markedSync s.sync)) := by
  have member : (s.withRun (syncRun time s.run)).sync.ownGroup = some g := hg
  show markStep (s.withRun (syncRun time s.run)) = _
  unfold markStep
  rw [member]
  refine evaluateSync_waits ?_ ?_ ((passingCondition_congr ?_ ?_ g _).trans hc)
  · exact congrArg SyncUnit.awaited (handFrame_sync _ _)
  · exact (congrArg SyncUnit.ownGroup (handFrame_sync _ _)).trans hg
  · exact handFrame_peers _ _
  · exact handFrame_own _ _

/-- A SYNC step whose condition does not hold yet is at rest once it has been marked (R161). -/
theorem FreeRun.settle_syncMember {s : State} (h : FreeRun s) {time : Nat} {act : TimeoutAction} {g : Group}
    (hs : s.run.stage = .begin) (hrec : s.run.record = some (.sync time act)) (hg : s.sync.ownGroup = some g)
    (hc : passingCondition s g (s.sync.markCount + 1) = false) : settle s =
      handFrame (.mark g (s.sync.markCount + 1)) ((s.withRun (syncRun time s.run)).withSync (markedSync s.sync)) := by
  have begun := (runningDue_begin hs hrec).trans (congrArg some (beginPhase_syncMember hg hc))
  have marked : FreeRun ((s.withRun (syncRun time s.run)).withSync (markedSync s.sync)) := h.of_eq rfl rfl rfl rfl
  have run := handFrame_run (.mark g (s.sync.markCount + 1)) ((s.withRun (syncRun time s.run)).withSync (markedSync s.sync))
  have free := marked.of_eq (congrArg Run.seq run) (congrArg Run.ending run) (congrArg Run.inflight run) (handFrame_hci _ _)
  exact settle_once (h.next.trans begun) (free.next.trans (runningDue_waiting (.inr (.inr (congrArg Run.stage run)))))

end Sys2Proof.Machine
end

section
/-! The passes of a step that draws rail: the demand handed over, its claim awaited, and the re-entry to SUPPLY (R65, R66, R80, R140). -/

namespace Sys2Proof.Machine

/-! ## The demand handed over -/

/-- An evaluation of the claim rule hands over and removes frames, and leaves the Rail Share Unit as it is (R144). -/
theorem evaluateClaim_rail (s : State) : (evaluateClaim s).rail = s.rail := by
  have removed (k : FrameKind) (x : State) : (removeFrame k x).rail = x.rail := rfl
  unfold evaluateClaim
  split
  · rfl
  · simp only [apply_ite State.rail, handFrame_rail, removed, ite_self]

/-- The Rail Share Unit with a demand handed over: kept while a give-up is under way, sought otherwise (R140, R150). -/
def demandTaken (d : Nat) (r : Rail) : Rail :=
  if r.givingUp then { r with kept := some d } else { r with ownDemand := some d, seeking := true }

theorem demandTaken_keeps (d : Nat) (r : Rail) : (demandTaken d r).st = r.st ∧ (demandTaken d r).givingUp = r.givingUp := by
  unfold demandTaken
  split <;> exact ⟨rfl, rfl⟩

/-- A demand handed over changes the Rail Share Unit, and neither the run nor the HCI (R140). -/
theorem handDemand_fields (d : Nat) (s : State) :
    (handDemand d s).run = s.run ∧ (handDemand d s).hci = s.hci ∧ (handDemand d s).rail = demandTaken d s.rail := by
  obtain ⟨_, _, _, _, side⟩ := linkSideOnly_handDemand d s
  refine ⟨by rw [side], by rw [side], ?_⟩
  unfold handDemand demandTaken seekDemand
  split
  · rfl
  · exact evaluateClaim_rail _

/-! ## A claim for a pass -/

/-- The supply wait as the profile loads it (R66). -/
def supplyWait (pr : Profile) : Option Nat := if pr.supplyLimit = 0 then none else some (pr.supplyLimit * 100)

/-- The run record in SUPPLY with a demand and a supply wait (R65, R66). -/
def supplyRun (d : Nat) (wait : Option Nat) (r : Run) : Run :=
  { r with phase := .supply, stage := .supply, passDemand := d, supplyRem := wait }

/-- The demand of a pass, against the limit (R65, R138, R140). -/
theorem claimForPass_eq (reload : Bool) {s : State} {d : Nat} (hd : d = (activeMembers s * currentDraw s + 24) / 25) :
    claimForPass reload s =
      if currentLimit s < d then endRun .supplyRange (s.withRun { s.run with phase := .supply, stage := .supply, passDemand := d })
      else handDemand d (s.withRun (supplyRun d (if reload then supplyWait s.profile else s.run.supplyRem) s.run)) := by
  subst hd
  cases reload <;> rfl

/-- A demand within the limit is handed over, and the run waits in SUPPLY (R65, R66). -/
theorem FreeRun.claim_fits {s : State} (h : FreeRun s) (reload : Bool) {d : Nat} (hd : d = (activeMembers s * currentDraw s + 24) / 25)
    (fits : d ≤ currentLimit s) (waits : s.rail.givingUp = true ∨ s.rail.st = .none) :
    nextAction (claimForPass reload s) = none
    ∧ (claimForPass reload s).run = supplyRun d (if reload then supplyWait s.profile else s.run.supplyRem) s.run
    ∧ (claimForPass reload s).rail = demandTaken d s.rail := by
  rw [claimForPass_eq reload hd, if_neg (Nat.not_lt.mpr fits)]
  obtain ⟨run, hci, rail⟩ := handDemand_fields d
    (s.withRun (supplyRun d (if reload then supplyWait s.profile else s.run.supplyRem) s.run))
  refine ⟨?_, run, rail⟩
  have entered : FreeRun (s.withRun (supplyRun d (if reload then supplyWait s.profile else s.run.supplyRem) s.run)) :=
    h.of_eq rfl rfl rfl rfl
  have free := entered.of_eq (congrArg Run.seq run) (congrArg Run.ending run) (congrArg Run.inflight run) hci
  obtain ⟨st, givingUp⟩ := demandTaken_keeps d s.rail
  refine free.next.trans (runningDue_supply_waits (congrArg Run.stage run) ?_)
  rw [rail, State.withRun_rail]
  rcases waits with up | unheld
  · exact .inr (givingUp.trans up)
  · exact .inl (by rw [st, unheld]; nofun)

/-- A demand above the limit ends the run SUPPLY RANGE (R65). -/
theorem FreeRun.claim_exceeds {s : State} (h : FreeRun s) (reload : Bool) {d : Nat}
    (hd : d = (activeMembers s * currentDraw s + 24) / 25) (exceeds : currentLimit s < d) :
    nextAction (claimForPass reload s) = none ∧ (claimForPass reload s).run.ending = some .supplyRange
    ∧ AbandonSent (claimForPass reload s) := by
  rw [claimForPass_eq reload hd, if_pos exceeds]
  have free : FreeRun (s.withRun { s.run with phase := .supply, stage := .supply, passDemand := d }) := h.of_eq rfl rfl rfl rfl
  obtain ⟨run, sent, -⟩ := endRun_quiet (cause := .supplyRange) free.quiet free.notIdle free.notEnding (by decide) (by decide)
  exact ⟨endRun_quiet_rest free.quiet free.notIdle free.notEnding (by decide) (by decide), by rw [run], sent⟩

/-! ## The next pass -/

/-- The next pass, before its demand is computed (R65). -/
def nextPass (s : State) : State :=
  s.withRun { s.run with pass := s.run.pass + 1, phase := .supply, passDemand := 0, restarted := false }

/-- A pass with an ACTIVE member claims, one without is skipped (R65). -/
theorem startPass_next {s : State} (hp : s.run.pass < s.run.passes) :
    startPass s = if activeMembers (nextPass s) = 0 then nextPass s else claimForPass true (nextPass s) :=
  if_neg (Nat.not_le.mpr hp)

/-- A pass about to start: at its own stage, or as the first phase of a step that draws rail. -/
def PassDue (s : State) : Prop :=
  s.run.stage = .passStart ∨ ∃ rec, s.run.stage = .begin ∧ s.run.record = some rec ∧ firstPhaseOf s.profile rec = .supply

/-- The run at the start of its first pass. -/
def atPassStart (s : State) : State := s.withRun { s.run with stage := .passStart }

/-- The start of a pass with an ACTIVE member, once its claim leaves nothing due. -/
theorem FreeRun.settle_pass {s : State} (h : FreeRun s) (hs : PassDue s) (hp : s.run.pass < s.run.passes)
    (hn : activeMembers (nextPass s) ≠ 0) (rest : nextAction (claimForPass true (nextPass s)) = none) :
    settle s = claimForPass true (nextPass s) := by
  rcases hs with hs | ⟨rec, hs, hrec, hf⟩
  · refine settle_once ?_ rest
    rw [h.next, runningDue_passStart hs, startPass_next hp, if_neg hn]
  · have began : nextAction s = some (atPassStart s) := by
      rw [h.next, runningDue_begin hs hrec, beginPhase_supply hrec hf]
      rfl
    have free : FreeRun (atPassStart s) := h.of_eq rfl rfl rfl rfl
    have claims : startPass (atPassStart s) = claimForPass true (nextPass s) :=
      (startPass_next (s := atPassStart s) hp).trans (if_neg hn)
    refine settle_twice began ?_ rest
    rw [free.next, runningDue_passStart (s := atPassStart s) rfl, claims]

/-- A pass whose demand is within the limit waits in SUPPLY for its claim (R65, R66, R140). -/
theorem FreeRun.settle_pass_fits {s : State} (h : FreeRun s) (hs : PassDue s) (hp : s.run.pass < s.run.passes)
    (free : s.rail.st = .none) (hg : s.rail.givingUp = false) (hn : activeMembers (nextPass s) ≠ 0) {d : Nat}
    (hd : d = (activeMembers (nextPass s) * currentDraw s + 24) / 25) (fits : d ≤ currentLimit s) :
    (settle s).run = supplyRun d (supplyWait s.profile) (nextPass s).run
    ∧ (settle s).rail = { s.rail with ownDemand := some d, seeking := true } := by
  have next : FreeRun (nextPass s) := h.of_eq rfl rfl rfl rfl
  obtain ⟨rest, run, rail⟩ := next.claim_fits true hd fits (.inr free)
  rw [h.settle_pass hs hp hn rest]
  exact ⟨run, rail.trans (if_neg (Bool.eq_false_iff.mp hg))⟩

/-- A pass whose demand is above the limit ends the run SUPPLY RANGE (R65). -/
theorem FreeRun.settle_pass_exceeds {s : State} (h : FreeRun s) (hs : PassDue s) (hp : s.run.pass < s.run.passes)
    (hn : activeMembers (nextPass s) ≠ 0) {d : Nat}
    (hd : d = (activeMembers (nextPass s) * currentDraw s + 24) / 25) (exceeds : currentLimit s < d) :
    (settle s).run.ending = some .supplyRange ∧ AbandonSent (settle s) := by
  have next : FreeRun (nextPass s) := h.of_eq rfl rfl rfl rfl
  obtain ⟨rest, ends⟩ := next.claim_exceeds true hd exceeds
  rw [h.settle_pass hs hp hn rest]
  exact ends

/-! ## The re-entry to SUPPLY -/

/-- A re-entry with an ACTIVE member claims for the remainder of its pass (R65, R66, R80). -/
theorem FreeRun.due_reenter {s : State} (h : FreeRun s) {fromSupply : Bool} (hs : s.run.stage = .reenter fromSupply)
    (hn : activeMembers s ≠ 0) : nextAction s = some (claimForPass (!fromSupply) s) := by
  have goes : reentryWaits s = false := by simp [reentryWaits, hn]
  rw [h.next, runningDue_reenter hs, goes]
  exact congrArg some (if_neg hn)

theorem FreeRun.settle_reenter_fits {s : State} (h : FreeRun s) {fromSupply : Bool} (hs : s.run.stage = .reenter fromSupply)
    (hn : activeMembers s ≠ 0) {d : Nat} (hd : d = (activeMembers s * currentDraw s + 24) / 25) (fits : d ≤ currentLimit s)
    (waits : s.rail.givingUp = true ∨ s.rail.st = .none) :
    (settle s).run = supplyRun d (if fromSupply then s.run.supplyRem else supplyWait s.profile) s.run
    ∧ (settle s).rail = demandTaken d s.rail := by
  obtain ⟨rest, run, rail⟩ := h.claim_fits (!fromSupply) hd fits waits
  rw [settle_once (h.due_reenter hs hn) rest]
  exact ⟨run.trans (by cases fromSupply <;> rfl), rail⟩

theorem FreeRun.settle_reenter_exceeds {s : State} (h : FreeRun s) {fromSupply : Bool} (hs : s.run.stage = .reenter fromSupply)
    (hn : activeMembers s ≠ 0) {d : Nat} (hd : d = (activeMembers s * currentDraw s + 24) / 25) (exceeds : currentLimit s < d) :
    (settle s).run.ending = some .supplyRange ∧ AbandonSent (settle s) := by
  obtain ⟨rest, ends⟩ := h.claim_exceeds (!fromSupply) hd exceeds
  rw [settle_once (h.due_reenter hs hn) rest]
  exact ends

/-- A re-entry without an ACTIVE member waits for the end of a give-up (R80, R150). -/
theorem FreeRun.settle_reenter_waits {s : State} (h : FreeRun s) {fromSupply : Bool} (hs : s.run.stage = .reenter fromSupply)
    (hn : activeMembers s = 0) (hg : s.rail.givingUp = true) : settle s = s :=
  h.settled ((runningDue_reenter hs).trans (if_pos (by simp [reentryWaits, hn, hg])))

/-- A re-entry without an ACTIVE member runs the remainder of its pass without a claim (R65). -/
theorem FreeRun.due_reenter_unclaimed {s : State} (h : FreeRun s) {fromSupply : Bool} (hs : s.run.stage = .reenter fromSupply)
    (hn : activeMembers s = 0) (hg : s.rail.givingUp = false) :
    nextAction s = some (runVisits .operate (s.withRun { s.run with passDemand := 0 })) := by
  have goes : reentryWaits s = false := by simp [reentryWaits, hg]
  rw [h.next, runningDue_reenter hs, goes]
  exact congrArg some (if_pos hn)

end Sys2Proof.Machine
end

section
/-! Step entry: the step made current, timed and loaded, and its pass plan formed (R42, R63, R64, R86). -/

namespace Sys2Proof.Machine

/-! ## The UAG loaded -/

/-- The UAG with a step's address part loaded, its position not begun (R42). -/
def freshUag (pr : Profile) (kind : AddrKind) (a : AddrPart) : Uag :=
  { loaded := true, load := uagLoadOf pr kind a, r := 0, v := 0, u := none, ended := false }

/-- The loaded fields are the figures of R42. -/
theorem loadedFrom_freshUag (pr : Profile) (kind : AddrKind) (a : AddrPart) : LoadedFrom pr kind a (freshUag pr kind a) := by
  obtain ⟨granule, base, count, stride, dir, wrap, repeats⟩ := a
  cases granule <;> simp [LoadedFrom, freshUag, uagLoadOf, spaceExp]

/-! ## The step made current -/

theorem enterStep_noSites {k : Nat} {rec : StepRecord} {s : State} (h : FreeRun s) (hn : ∀ i : Site, s.sites[i].state ≠ .active) :
    enterStep k rec s = s.withRun { s.run with ending := some .noSites, teardown := .abandon } := by
  refine (if_pos ((activeCount_eq_zero_iff s).mpr hn)).trans ?_
  exact (endRun_taken .noSites h.notIdle h.notEnding).trans (if_pos (.inr rfl))

/-- With an ACTIVE site the step is current, then timed, loaded and planned (R63). -/
theorem enterStep_active {k : Nat} {rec : StepRecord} {s : State} (hn : ∃ i : Site, s.sites[i].state = .active) :
    enterStep k rec s = beginStep rec (timeStep k rec (s.withRun (entryRun k rec 0 0 [] s.run))) :=
  if_neg fun h0 => let ⟨i, hi⟩ := hn; (activeCount_eq_zero_iff s).mp h0 i hi

theorem enterStep_unaddressed {k : Nat} {rec : StepRecord} {s : State} (hn : ∃ i : Site, s.sites[i].state = .active)
    (ha : rec.addr? = none) : enterStep k rec s = (s.withUag (unloaded s.uag)).withRun (entryRun k rec 0 0 [] s.run) := by
  rw [enterStep_active hn]
  cases rec with
  | dwell | sync => rfl
  | erase | program | verify => exact nomatch ha

/-- Every site is a member of the one pass of a step that draws no rail. -/
theorem maskOf_all : maskOf (fun _ => true) = 0xFFFF := by decide

theorem enterStep_verify {k : Nat} {a : AddrPart} {data : DataPart} {bin : Nat} {inc : Bool} {s : State}
    (hn : ∃ i : Site, s.sites[i].state = .active) : enterStep k (.verify a data bin inc) s =
      (s.withUag (freshUag s.profile .verify a)).withRun (entryRun k (.verify a data bin inc) 1 16 [0xFFFF] s.run) := by
  rw [enterStep_active hn, ← maskOf_all]
  rfl

/-! ## The pass plan -/

/-- The pass plan of a step that draws rail is its pass selection (R64, R139). -/
theorem formPassPlan_some {s : State} {m p : Nat} (hd : currentDraw s ≠ 0)
    (hsel : passSelection (activeCount s) (currentDraw s) (currentLimit s) = some (m, p)) :
    formPassPlan s = s.withRun { s.run with passes := p, passSize := m, members := passChunks s m p } := by
  unfold formPassPlan
  rw [if_neg hd, hsel]
  rfl

/-- A step one of whose sites draws more than the limit ends the run (R64, R139). -/
theorem formPassPlan_none {s : State} (hd : currentDraw s ≠ 0)
    (hsel : passSelection (activeCount s) (currentDraw s) (currentLimit s) = none) : formPassPlan s = endRun .supplyRange s := by
  unfold formPassPlan
  rw [if_neg hd, hsel]

/-! ## A timed step -/

/-- Step k is entered, timed and loaded, its pass plan not yet formed. -/
def timedEntry (k : Nat) (rec : StepRecord) (t : TimedStep) (kind : AddrKind) (a : AddrPart) (s : State) : State :=
  ((clearStats (s.withTimers { s.timers with timed := some t })).withUag (freshUag s.profile kind a)).withRun
    (entryRun k rec 0 0 [] s.run)

/-- An ERASE or PROGRAM step is timed with its own limits, or with the profile's for its kind (R31, R86). -/
theorem enterStep_timed {k : Nat} {rec : StepRecord} {kind : AddrKind} {a : AddrPart} {own : Option Limits} {default : Limits}
    {bin : Nat} {action : FailAction} {s : State} (hn : ∃ i : Site, s.sites[i].state = .active)
    (hrec : (rec = .erase a own bin action ∧ kind = .erase ∧ default = s.profile.eraseLimits)
      ∨ ((∃ data, rec = .program a data own bin action) ∧ kind = .program ∧ default = s.profile.programLimits)) :
    enterStep k rec s = formPassPlan
      (timedEntry k rec { step := k, limits := own.getD default, action := action, bin := bin } kind a s) := by
  rw [enterStep_active hn]
  rcases hrec with ⟨rfl, rfl, rfl⟩ | ⟨⟨data, rfl⟩, rfl, rfl⟩ <;> rfl

section Entry

variable (k : Nat) (rec : StepRecord) (t : TimedStep) (kind : AddrKind) (a : AddrPart) (s : State)

theorem clearStats_withSites : clearStats s = s.withSites (clearStats s).sites := rfl

/-- Four blocks replaced, one of them twice, and put back. -/
theorem restored_four (x : TimerArray) (y : Vector SiteRec 16) (z : Uag) (r r' : Run) :
    (((((((((s.withTimers x).withSites y).withUag z).withRun r).withRun r').withSites s.sites).withTimers s.timers).withUag
      s.uag).withRun s.run) = s := by
  cases s
  rfl

/-- At entry every site's statistics are zeroed, and nothing else of its record changes (R86). -/
theorem timedEntry_site (i : Site) :
    (timedEntry k rec t kind a s).sites[i] = { s.sites[i] with stats := { min := 0, max := 0, sum := 0, count := 0 } } :=
  mapSites_get i (fun x => { x with stats := Stats.zero }) (s.withTimers { s.timers with timed := some t })

theorem activeSites_timedEntry : activeSites (timedEntry k rec t kind a s) = activeSites s := by
  unfold activeSites
  exact List.filter_congr fun i _ => by rw [timedEntry_site]

theorem activeCount_timedEntry : activeCount (timedEntry k rec t kind a s) = activeCount s :=
  congrArg List.length (activeSites_timedEntry k rec t kind a s)

theorem passChunks_timedEntry (m p : Nat) : passChunks (timedEntry k rec t kind a s) m p = passChunks s m p := by
  unfold passChunks
  rw [activeSites_timedEntry]

/-- The pass plan of a step that draws no rail (R64). -/
theorem formPassPlan_timedEntry_undrawn (hd : stepDraw s.profile rec = 0) : formPassPlan (timedEntry k rec t kind a s) =
    (timedEntry k rec t kind a s).withRun (entryRun k rec 1 16 [0xFFFF] s.run) := by
  rw [← maskOf_all]
  exact if_pos hd

theorem formPassPlan_timedEntry_some {m p : Nat} (hd : stepDraw s.profile rec ≠ 0)
    (hsel : passSelection (activeCount s) (stepDraw s.profile rec) (currentLimit s) = some (m, p)) :
    formPassPlan (timedEntry k rec t kind a s) =
      (timedEntry k rec t kind a s).withRun (entryRun k rec p m (passChunks s m p) s.run) := by
  rw [← activeCount_timedEntry k rec t kind a s] at hsel
  rw [← passChunks_timedEntry k rec t kind a s]
  exact formPassPlan_some hd hsel

theorem formPassPlan_timedEntry_none (hd : stepDraw s.profile rec ≠ 0)
    (hsel : passSelection (activeCount s) (stepDraw s.profile rec) (currentLimit s) = none) :
    formPassPlan (timedEntry k rec t kind a s) = endRun .supplyRange (timedEntry k rec t kind a s) := by
  rw [← activeCount_timedEntry k rec t kind a s] at hsel
  exact formPassPlan_none hd hsel

/-- Nothing but the run, the UAG, the timed step and the statistics differs at entry. -/
theorem timedEntry_frame (r : Run) :
    ((timedEntry k rec t kind a s).withRun r).timers =
      { s.timers with timed := ((timedEntry k rec t kind a s).withRun r).timers.timed }
    ∧ (∀ i : Site, ((timedEntry k rec t kind a s).withRun r).sites[i] =
        { s.sites[i] with stats := { min := 0, max := 0, sum := 0, count := 0 } })
    ∧ (((((timedEntry k rec t kind a s).withRun r).withSites s.sites).withTimers s.timers).withUag s.uag).withRun s.run = s := by
  refine ⟨rfl, timedEntry_site k rec t kind a s, ?_⟩
  unfold timedEntry
  rw [clearStats_withSites]
  exact restored_four s _ _ _ _ _

end Entry

/-- An end cause taken with a quiet HCI leaves the UAG, the timed step, the timer values and the statistics (R15, R72). -/
theorem endRun_quiet_leaves {s : State} {cause : EndCause} (hq : HciQuiet s) (hr : s.run.seq ≠ .idle) (he : s.run.ending = none)
    (hc : cause ≠ .complete) (hn : cause ≠ .noSites) :
    (endRun cause s).uag = s.uag ∧ (endRun cause s).timers.timed = s.timers.timed ∧ (endRun cause s).timers.values = s.timers.values
    ∧ ∀ i : Site, (endRun cause s).sites[i].stats = s.sites[i].stats := by
  rw [endRun_quiet_eq hq hr he hc hn]
  exact ⟨rfl, rfl, rfl, fun i => by rw [sendRequest_sites, abandonEffects_site]; rfl⟩

/-- What a timed step's entry sets whether or not its plan can be formed: the UAG, the timed step and the statistics (R42, R86). -/
structure EntryTimed (k : Nat) (t : TimedStep) (kind : AddrKind) (a : AddrPart) (s s' : State) : Prop where
  uag : s'.uag = freshUag s.profile kind a
  timed : s'.timers.timed = some t
  values : s'.timers.values = s.timers.values
  stats : ∀ i : Site, s'.sites[i].stats = { min := 0, max := 0, sum := 0, count := 0 }

theorem entryTimed_withRun (k : Nat) (rec : StepRecord) (t : TimedStep) (kind : AddrKind) (a : AddrPart) (s : State) (r : Run) :
    EntryTimed k t kind a s ((timedEntry k rec t kind a s).withRun r) where
  uag := rfl
  timed := rfl
  values := rfl
  stats i := congrArg SiteRec.stats (timedEntry_site k rec t kind a s i)

/-- A pass plan formed changes the run alone. -/
theorem formPassPlan_timedEntry_formed (k : Nat) (rec : StepRecord) (t : TimedStep) (kind : AddrKind) (a : AddrPart) {s : State}
    (hp : stepDraw s.profile rec = 0 ∨ passSelection (activeCount s) (stepDraw s.profile rec) (currentLimit s) ≠ none) :
    ∃ r : Run, formPassPlan (timedEntry k rec t kind a s) = (timedEntry k rec t kind a s).withRun r := by
  by_cases hd : stepDraw s.profile rec = 0
  · exact ⟨_, formPassPlan_timedEntry_undrawn k rec t kind a s hd⟩
  · obtain ⟨⟨m, p⟩, hsel⟩ := Option.ne_none_iff_exists'.mp (hp.resolve_left hd)
    exact ⟨_, formPassPlan_timedEntry_some k rec t kind a s hd hsel⟩

theorem FreeRun.entered {s : State} (h : FreeRun s) (k : Nat) (rec : StepRecord) (t : TimedStep) (kind : AddrKind) (a : AddrPart) :
    FreeRun (timedEntry k rec t kind a s) := h.of_eq rfl rfl rfl rfl

theorem FreeRun.entryTimed {s : State} (h : FreeRun s) (k : Nat) (rec : StepRecord) (t : TimedStep) (kind : AddrKind) (a : AddrPart) :
    EntryTimed k t kind a s (formPassPlan (timedEntry k rec t kind a s)) := by
  by_cases hp : stepDraw s.profile rec = 0 ∨ passSelection (activeCount s) (stepDraw s.profile rec) (currentLimit s) ≠ none
  · obtain ⟨r, formed⟩ := formPassPlan_timedEntry_formed k rec t kind a hp
    rw [formed]
    exact entryTimed_withRun k rec t kind a s r
  · rw [not_or, not_not] at hp
    obtain ⟨hd, hsel⟩ := hp
    have free := h.entered k rec t kind a
    obtain ⟨uag, timed, values, stats⟩ := endRun_quiet_leaves (cause := .supplyRange) free.quiet free.notIdle free.notEnding
      (by decide) (by decide)
    rw [formPassPlan_timedEntry_none k rec t kind a s hd hsel]
    exact ⟨uag, timed, values, fun i => (stats i).trans (congrArg SiteRec.stats (timedEntry_site k rec t kind a s i))⟩

/-- A timed step one of whose sites draws more than the limit is entered and the run ends (R64, R139). -/
theorem FreeRun.entry_exceeds {s : State} (h : FreeRun s) (k : Nat) (rec : StepRecord) (t : TimedStep) (kind : AddrKind) (a : AddrPart)
    (hd : stepDraw s.profile rec ≠ 0)
    (hsel : passSelection (activeCount s) (stepDraw s.profile rec) (currentLimit s) = none) :
    (formPassPlan (timedEntry k rec t kind a s)).run.ending = some .supplyRange
    ∧ (formPassPlan (timedEntry k rec t kind a s)).run.current = some k
    ∧ AbandonSent (formPassPlan (timedEntry k rec t kind a s)) := by
  have free := h.entered k rec t kind a
  obtain ⟨run, sent, -⟩ := endRun_quiet (cause := .supplyRange) free.quiet free.notIdle free.notEnding (by decide) (by decide)
  rw [formPassPlan_timedEntry_none k rec t kind a s hd hsel]
  exact ⟨by rw [run], by rw [run]; rfl, sent⟩

/-- Settles O21: the next action of a free run by its stage, and where it leaves nothing due the settled card. -/
theorem runGoesOn : Obligations.RunGoesOn := by
  intro s running notEnding quiet noUnit
  have h : FreeRun s := ⟨running, notEnding, quiet, noUnit⟩
  refine ⟨fun k rec hs hrec => ?enter, fun k hs hk => ?exit, fun hs => ?closing, fun hs hp => ?lastPass,
    fun hs => h.settled (runningDue_waiting hs), fun time act hs hrec hg => ?syncAlone, fun time hs hrec => h.settle_dwell hs hrec,
    fun time act g hs hrec hg hc => ?syncMember, fun a data bin inc hs hrec hl => ?verify, fun rec hs hrec hf hl => ?operate,
    fun rec n d hs hp free hg hn hn0 hd => ?pass, fun hs hp hn => ?skipped, fun b d hs hn hd => ?reenter,
    fun b hs hn => ?reenterEmpty, fun hs hr hg => ?claimed, fun hs hl hu => ?visit, fun hs hw => h.settled (runningDue_supply_waits hs hw),
    fun hs hu hd => ?endUnclaimed, fun hs hu hd hr hl => h.settle_endPass hs hu hd hr hl⟩
  case enter =>
    have next : nextAction s = some (enterStep k rec s) := h.next.trans (runningDue_enter hs hrec)
    refine ⟨fun hn => next.trans (congrArg some (enterStep_noSites h hn)), fun hn => ⟨fun ha => ?_, ?_, ?_⟩⟩
    · rw [next, enterStep_unaddressed hn ha]
    · rintro a data bin inc rfl
      exact ⟨_, loadedFrom_freshUag _ _ _, next.trans (congrArg some (enterStep_verify hn))⟩
    · intro kind a own default bin action hkind
      rw [enterStep_timed hn hkind] at next
      obtain ⟨uag, timed, values, stats⟩ := h.entryTimed k rec
        { step := k, limits := own.getD default, action := action, bin := bin } kind a
      refine ⟨_, next, uag ▸ loadedFrom_freshUag _ _ _, timed, values, stats, fun hd => ?_, fun m p hd hsel => ?_, fun hp => ?_,
        fun hd hsel => h.entry_exceeds k rec _ kind a hd hsel⟩
      · rw [formPassPlan_timedEntry_undrawn _ _ _ _ _ _ hd]
        rfl
      · rw [formPassPlan_timedEntry_some _ _ _ _ _ _ hd hsel]
        rfl
      · obtain ⟨r, formed⟩ := formPassPlan_timedEntry_formed k rec
          { step := k, limits := own.getD default, action := action, bin := bin } kind a hp
        rw [formed]
        exact timedEntry_frame k rec _ kind a s r
  case exit =>
    refine ⟨fun hr => h.settled ((runningDue_exit hs).trans (if_neg hr)), fun hr hlast => ?_, fun hr hmore => ?_⟩
    · rw [h.next, runningDue_exit hs, if_pos hr, h.exitStep_eq hk, if_pos hlast]
    · rw [h.next, runningDue_exit hs, if_pos hr, h.exitStep_eq hk, if_neg (Nat.not_le.mpr hmore)]
  case closing =>
    exact ⟨fun hr => h.settled ((runningDue_closing hs).trans (if_neg hr)), fun hr => by
      rw [h.next, runningDue_closing hs, if_pos hr]⟩
  case lastPass => exact h.next.trans ((runningDue_passStart hs).trans (congrArg some (if_pos hp)))
  case syncAlone => rw [h.next, runningDue_begin hs hrec, h.beginPhase_syncAlone hg]; rfl
  case syncMember =>
    rw [h.settle_syncMember hs hrec hg hc]
    exact ⟨handFrame_run _ _, handFrame_sync _ _, fun sends => handFrame_out sends⟩
  case verify => rw [h.next, runningDue_begin hs hrec, beginPhase_verify hl]; rfl
  case operate => rw [h.next, runningDue_begin hs hrec, beginPhase_operate hrec hf hl]; rfl
  case pass =>
    subst hn
    have due : PassDue s := hs.imp_right fun hb => ⟨rec, hb⟩
    exact ⟨fun fits => h.settle_pass_fits due hp free hg hn0 hd fits, fun exceeds => h.settle_pass_exceeds due hp hn0 hd exceeds⟩
  case skipped => exact h.next.trans ((runningDue_passStart hs).trans (congrArg some ((startPass_next hp).trans (if_pos hn))))
  case reenter =>
    exact ⟨fun fits waits => h.settle_reenter_fits hs hn hd fits waits, fun exceeds => h.settle_reenter_exceeds hs hn hd exceeds⟩
  case reenterEmpty =>
    refine ⟨fun hg => h.settle_reenter_waits hs hn hg, fun hg hr => ?_, fun hg hr hl => ?_⟩
    · exact (h.due_reenter_unclaimed hs hn hg).trans
        (congrArg some (runVisits_restarted (s := s.withRun { s.run with passDemand := 0 }) _ hr))
    · exact (h.due_reenter_unclaimed hs hn hg).trans
        (congrArg some (runVisits_first (s := s.withRun { s.run with passDemand := 0 }) _ hr hl))
  case claimed =>
    have next : nextAction s = some (beginClaimedPass s) := h.next.trans ((runningDue_supply hs).trans (if_pos ⟨hr, hg⟩))
    exact ⟨fun first => next.trans (congrArg some (runVisits_restarted _ first)),
      fun first hl => next.trans (congrArg some (runVisits_first _ first hl))⟩
  case visit => rw [h.next, h.due_visits hs, hu, hl]; rfl
  case endUnclaimed => rw [h.next, h.due_visits hs, if_pos hu, endPass_unclaimed hd]; rfl

end Sys2Proof.Machine
end

section
/-! RUN, and the refusals of the commands that act on a run (R61, R62, R77, R80, R82). -/

namespace Sys2Proof.Machine

/-! ## The commands served -/

theorem exec_run {b : Block} {s s0 : State} (h : Served .run b s s0) : exec .run s = .next (runOwner b s0) :=
  congrArg _ (serve_served h.1.1 h.1.2 h.2)

theorem exec_pause {b : Block} {s s0 : State} (h : Served .pause b s s0) : exec .pause s = .next (pauseOwner b s0) :=
  congrArg _ (serve_served h.1.1 h.1.2 h.2)

theorem exec_resume {b : Block} {s s0 : State} (h : Served .resume b s s0) : exec .resume s = .next (resumeOwner b s0) :=
  congrArg _ (serve_served h.1.1 h.1.2 h.2)

theorem exec_abort {b : Block} {s s0 : State} (h : Served .abort b s s0) : exec .abort s = .next (abortOwner b s0) :=
  congrArg _ (serve_served h.1.1 h.1.2 h.2)

/-! ## PAUSE, RESUME and ABORT refused -/

/-- The first condition of PAUSE, RESUME and ABORT: no run (R77, R80, R82). -/
theorem seqIdle_false {s : State} (h : s.run.seq ≠ .idle) : (s.run.seq == .idle) = false := beq_eq_false_iff_ne.mpr h

theorem isSome_true {α : Type} {o : Option α} (h : o ≠ none) : o.isSome = true := Option.isSome_iff_ne_none.mpr h

theorem isNone_false {α : Type} {o : Option α} (h : o ≠ none) : o.isNone = false := by
  rw [← Option.not_isSome, isSome_true h]
  rfl

/-- Settles O19: each condition of the three tables is reached when those before it do not hold. -/
theorem runCommandsRefused : Obligations.RunCommandsRefused := by
  intro b s s0
  refine ⟨fun h => ?_, fun h => ?_, fun h => ?_⟩
  · rw [exec_pause h]
    refine ⟨fun idle => ?_, fun run ending => ?_, fun run ending pending => ?_, fun paused ending pending => ?_⟩
    · exact congrArg _ (guarded_first (beq_iff_eq.mpr idle))
    · exact congrArg _ ((guarded_next (seqIdle_false run)).trans (guarded_first (isSome_true ending)))
    · refine congrArg _ ((guarded_next (seqIdle_false run)).trans ((guarded_next ?_).trans (guarded_first (isSome_true pending))))
      rw [ending]; rfl
    · have run : s0.run.seq ≠ .idle := by rw [paused]; nofun
      refine congrArg _ ((guarded_next (seqIdle_false run)).trans ((guarded_next ?_).trans ((guarded_next ?_).trans
        (guarded_first (beq_iff_eq.mpr paused)))))
      · rw [ending]; rfl
      · rw [pending]; rfl
  · rw [exec_resume h]
    refine ⟨fun idle => ?_, fun run ending => ?_, fun running ending unheld => ?_⟩
    · exact congrArg _ (guarded_first (beq_iff_eq.mpr idle))
    · exact congrArg _ ((guarded_next (seqIdle_false run)).trans (guarded_first (isSome_true ending)))
    · have run : s0.run.seq ≠ .idle := by rw [running]; nofun
      refine congrArg _ ((guarded_next (seqIdle_false run)).trans ((guarded_next ?_).trans (guarded_first ?_)))
      · rw [ending]; rfl
      · rw [running, unheld]; rfl
  · rw [exec_abort h]
    refine ⟨fun idle => ?_, fun run outstanding => ?_⟩
    · exact congrArg _ (guarded_first (beq_iff_eq.mpr idle))
    · exact congrArg _ ((guarded_next (seqIdle_false run)).trans (guarded_first (isSome_true outstanding)))

/-! ## RUN refused -/

/-- A value above the groups that is not the marker of a run without one names nothing (R192). -/
theorem runGroupOf_none {v : Nat} (h4 : 4 ≤ v) (hm : v ≠ 0xFF) : runGroupOf v = none := by
  unfold runGroupOf
  rw [dif_neg (Nat.not_lt.mpr h4), if_neg hm]

theorem runGroupOf_some {v : Nat} (h : v < 4 ∨ v = 0xFF) : (runGroupOf v).isNone = false := by
  unfold runGroupOf
  rcases h with h | rfl
  · rw [dif_pos h]; rfl
  · rfl

/-- The entries of a range are defined when each holds a record (R38). -/
theorem rangeDefined_iff (first last : Nat) (s : State) :
    rangeDefined first last s = true ↔ ∀ k, first ≤ k → k ≤ last → (s.store.steps[k]?).join ≠ none := by
  unfold rangeDefined
  rw [List.all_eq_true]
  constructor
  · intro h k low high
    have entry := h (k - first) (List.mem_range.mpr (by omega))
    rw [Nat.add_sub_cancel' low] at entry
    exact Option.isSome_iff_ne_none.mp entry
  · intro h j hj
    have bound := List.mem_range.mp hj
    exact isSome_true (h (first + j) (by omega) (by omega))

/-- RUN's first five conditions do not refuse a block that names a range of defined steps and a group, outside a run and with a
profile; the two that are left decide (R61). -/
theorem runOwner_defined {b : Block} {s : State} (idle : s.run.seq = .idle) (profile : s.store.profile ≠ none)
    (ordered : b.op 0 ≤ b.op 1) (most : b.op 1 ≤ 127) (group : (runGroupOf (b.op 2)).isNone = false)
    (steps : ∀ k, b.op 0 ≤ k → k ≤ b.op 1 → (s.store.steps[k]?).join ≠ none) :
    runOwner b s = guarded b [(s.link.st != .up, .linkNotReady), (s.store.stopOption == .shutdown && s.alert.level, .alertActive)]
      (startRun b) s := by
  have range : decide (b.op 1 < b.op 0 ∨ 127 < b.op 1) = false := decide_eq_false (by omega)
  have defined : (!rangeDefined (b.op 0) (b.op 1) s) = false := by rw [(rangeDefined_iff _ _ s).mpr steps]; rfl
  unfold runOwner runChecks
  rw [guarded_runIdle idle, guarded_next (isNone_false profile), guarded_next range, guarded_next group, guarded_next defined]

/-- Settles O12: each condition is reached when those before it do not hold. -/
theorem runRefusedInOrder : Obligations.RunRefusedInOrder := by
  intro b s s0 h
  rw [exec_run h]
  refine ⟨fun run => congrArg _ (guarded_runActive run), fun idle => ⟨fun noProfile => ?_, fun profile => ⟨fun bad => ?_, fun ordered most =>
    ⟨fun ⟨h4, hm⟩ => ?_, fun named => ⟨fun ⟨k, low, high, undefined⟩ => ?_, fun steps => ⟨fun down => ?_, fun up shutdown level => ?_⟩⟩⟩⟩⟩⟩
  · exact congrArg _ ((guarded_runIdle idle).trans (guarded_first (by rw [noProfile]; rfl)))
  all_goals have known : s0.store.profile.isNone = false := isNone_false profile
  · exact congrArg _ ((guarded_runIdle idle).trans ((guarded_next known).trans (guarded_first (decide_eq_true bad))))
  all_goals have range : decide (b.op 1 < b.op 0 ∨ 127 < b.op 1) = false := decide_eq_false (by omega)
  · exact congrArg _ ((guarded_runIdle idle).trans ((guarded_next known).trans ((guarded_next range).trans
      (guarded_first (by rw [runGroupOf_none h4 hm]; rfl)))))
  · refine congrArg _ ((guarded_runIdle idle).trans ((guarded_next known).trans ((guarded_next range).trans
      ((guarded_next (runGroupOf_some named)).trans (guarded_first ?_)))))
    rw [Bool.not_eq_true']
    exact Bool.eq_false_iff.mpr fun defined => (rangeDefined_iff _ _ s0).mp defined k low high undefined
  · rw [runOwner_defined idle profile ordered most (runGroupOf_some named) steps, guarded_first (bne_iff_ne.mpr down)]
  · rw [runOwner_defined idle profile ordered most (runGroupOf_some named) steps, guarded_next (bne_eq_false_iff_eq.mpr up),
      guarded_first (by rw [shutdown, level]; rfl)]

/-! ## RUN accepted -/

/-- Settles O11: past the seven conditions CONTACT-CHECK goes out from the cleared card. -/
theorem runStarted : Obligations.RunStarted := by
  intro b g s s0 h quiet idle profile ordered most group steps up calm
  have named : (runGroupOf (b.op 2)).isNone = false := by rw [group]; rfl
  have silent : (s0.store.stopOption == .shutdown && s0.alert.level) = false := by
    simpa using calm
  rw [exec_run h, runOwner_defined idle profile ordered most named steps, guarded_next (bne_eq_false_iff_eq.mpr up), guarded_next silent]
  refine ⟨_, congrArg _ ((guarded_accepted rfl).trans (handRequest_quiet quiet nofun)), rfl, rfl, rfl, rfl, rfl, ?_, rfl, rfl, rfl, rfl,
    rfl, rfl, rfl, ?_, rfl, fun i => clearForRun_site _ i, fun i => ?_, rfl, rfl, rfl, rfl, rfl, rfl, rfl, rfl⟩
  · show (runGroupOf (b.op 2)).getD none = g
    rw [group]
    rfl
  · obtain ⟨-, held, -⟩ := quiet
    show ({ s0.hci with
      outstanding := some { request := .contactCheck, deadline := 500 }, held := none, err := none, cable := some .contactCheck } : Hci) = _
    rw [← held]
  · exact Vector.getElem_replicate _

end Sys2Proof.Machine
end

section
/-! The reading commands: a record returned into its buffer, and nothing else changed (R76, R113, R116, R135, R187). -/

namespace Sys2Proof.Machine

/-! ## The buffer -/

/-- A buffer that passes its check lies in the area and holds a record of the command's return length (R181, R184). -/
theorem buffer_of_windowChecks {c : Cmd} {b : Block} {s : State} {n : Nat} (h : windowChecks c b s = none)
    (hn : c.returnLength = some n) (hc : c ≠ .run) :
    0x100 ≤ b.bufOffset ∧ b.bufOffset + n ≤ 0x1000 := by
  obtain ⟨-, h⟩ := firstRefusal_none h
  obtain ⟨-, h⟩ := firstRefusal_none h
  obtain ⟨ok, -⟩ := firstRefusal_none h
  have notRun : (c == .run) = false := beq_eq_false_iff_ne.mpr hc
  unfold bufferCheck bufferOk at ok
  simp only [hn, notRun, Bool.false_and, Bool.false_or, Bool.not_eq_false', Bool.and_eq_true, decide_eq_true_eq, Config.areaFirst,
    Config.windowSize] at ok
  obtain ⟨⟨⟨low, fits⟩, -⟩, room⟩ := ok
  have low := of_decide_eq_true low
  have fits := of_decide_eq_true fits
  omega

/-! ## A record returned -/

/-- Stores of a record change the window memory alone. -/
theorem writeBytes_cwc (a : Nat) (bs : List Byte) (s : State) :
    (writeBytes a bs s).cwc = { s.cwc with mem := (writeBytes a bs s).cwc.mem } := by
  obtain ⟨m, hm⟩ := writeBytes_eq a bs s
  rw [hm]

/-- A record written into a buffer in the area, and its block completed OK (R183, R184). -/
theorem returned_respondWith {b : Block} {data : List Byte} {s : State} (hm : MemoryCanonical s) (hp : postValid b.offset = true)
    (low : 0x100 ≤ b.bufOffset) (high : b.bufOffset + data.length ≤ 0x1000) : Returned b data s (respondWith b .ok data s) := by
  obtain ⟨-, first, last⟩ := (postValid_iff _).mp hp
  have flagArea : inArea (b.offset + 2) = true := (inArea_iff _).mpr ⟨by omega, by omega⟩
  have codeArea : inArea (b.offset + 1) = true := (inArea_iff _).mpr ⟨by omega, by omega⟩
  have cwc := writeBytes_cwc b.bufOffset data s
  have done := completed_respond b .ok (writeBytes b.bufOffset data s)
  refine ⟨fun a => ?_, ?_, ?_, onlyCwc_respondWith b .ok data s⟩
  · refine (done.read (writeBytes_wf _ _ hm) a).trans ?_
    rw [readArea_writeBytes a _ _ hm]
    refine if_congr (by simp [flagArea]) rfl (if_congr (by simp [codeArea]) rfl (if_congr ?_ rfl rfl))
    rw [inArea_iff]
    omega
  · refine done.attention.trans ((noticed_singleton _ b).trans ?_)
    rw [cwc]
    rfl
  · show { (respond b .ok (writeBytes b.bufOffset data s)).cwc with mem := s.cwc.mem, attention := s.cwc.attention } = s.cwc
    rw [respond_eq, cwc]

/-- The record of a served reading command stands in its buffer. -/
theorem returned_served {c : Cmd} {b : Block} {data : List Byte} {s s0 : State} (h : Served c b s s0) (hm : MemoryCanonical s)
    (hp : postValid b.offset = true) (hn : c.returnLength = some data.length) (hc : c ≠ .run) :
    Returned b data s0 (respondWith b .ok data s0) := by
  obtain ⟨⟨taken, -⟩, checked⟩ := h
  obtain ⟨low, high⟩ := buffer_of_windowChecks checked hn hc
  refine returned_respondWith ?_ hp low high
  rw [takeBlock_eq taken]
  exact hm

/-! ## The lengths of the records -/

theorem length_optByte (v : Option Nat) : (optByte v).length = 1 := length_beBytes _ _

theorem length_optUnit (v : Option Nat) : (optUnit v).length = 4 := length_beBytes _ _

theorem length_flagByte (v : Bool) : (flagByte v).length = 1 := length_beBytes _ _

theorem length_reserved (n : Nat) : (reserved n).length = n := List.length_replicate

theorem length_statusArea (s : State) : (statusArea s).length = 64 := by
  unfold statusArea
  simp only [List.length_append, length_beBytes, length_optByte, length_flagByte, length_reserved, length_headErrorBytes]

theorem length_statusBytes (s : State) : (statusBytes s).length = 96 := by
  unfold statusBytes
  simp only [List.length_append, length_statusArea, length_beBytes, length_optByte, length_flagByte, length_reserved]

theorem length_peerBytes (s : State) (x : Station) : (peerBytes s x).length = 10 := by
  simp only [peerBytes, List.length_append, length_beBytes, length_optByte, length_flagByte]

/-- Entries of one length, laid one after another. -/
theorem length_flatMap_const {α : Type} {f : α → List Byte} {n : Nat} (h : ∀ x, (f x).length = n) (l : List α) :
    (l.flatMap f).length = l.length * n := by
  rw [List.length_flatMap, List.map_congr_left fun x _ => h x, List.map_const', List.sum_replicate_nat]

theorem length_peersBytes (s : State) : (peersBytes s).length = 88 := by
  simp only [peersBytes, List.length_append, length_beBytes, length_reserved, length_flatMap_const (length_peerBytes s), allStations,
    List.length_finRange]

theorem length_siteBytes (s : State) (i : Site) : (siteBytes s i).length = 36 := by
  simp only [siteBytes, List.length_append, length_beBytes, length_optByte, length_flagByte, length_reserved]

theorem length_badBlockBytes {s : State} {i : Site} (h : s.sites[i].badBlocks.length ≤ 64) : (badBlockBytes s i).length = 132 := by
  simp only [badBlockBytes, List.length_append, length_beBytes, length_reserved, length_flatMap_const (length_beBytes 2)]
  omega

/-! ## The site named -/

theorem site_of_op {b : Block} {i : Site} (h : b.op 0 = i) : b.site = some i := by
  unfold Block.site
  rw [dif_pos (by rw [h]; exact i.isLt)]
  exact congrArg some (Fin.ext h)

/-- A site operand above 15 names no site. -/
theorem site_none {b : Block} (h : 16 ≤ b.op 0) : b.site = none := dif_neg (Nat.not_lt.mpr h)

/-! ## The commands served -/

theorem exec_readStatus {b : Block} {s s0 : State} (h : Served .readStatus b s s0) :
    exec .readStatus s = .next (respondWith b .ok (statusBytes s0) s0) := congrArg _ (serve_served h.1.1 h.1.2 h.2)

theorem exec_readPeers {b : Block} {s s0 : State} (h : Served .readPeers b s s0) :
    exec .readPeers s = .next (respondWith b .ok (peersBytes s0) s0) := congrArg _ (serve_served h.1.1 h.1.2 h.2)

theorem exec_readSite {b : Block} {s s0 : State} (h : Served .readSite b s s0) : exec .readSite s = .next (readSiteOwner b s0) :=
  congrArg _ (serve_served h.1.1 h.1.2 h.2)

theorem exec_readBadBlocks {b : Block} {s s0 : State} (h : Served .readBadBlocks b s s0) :
    exec .readBadBlocks s = .next (readBadBlocksOwner b s0) := congrArg _ (serve_served h.1.1 h.1.2 h.2)

/-- READ-RESULT as it is served: the result record, or the empty one while a run is in progress (R76). -/
theorem exec_readResult {b : Block} {s s0 : State} (h : Served .readResult b s s0) : exec .readResult s =
    .next (respondWith b .ok (resultBytes (if runActive s0 then none else s0.run.result)) s0) :=
  congrArg _ (serve_served h.1.1 h.1.2 h.2)

/-- Settles O14: each record has its return length, so that the buffer that passed its check holds it. -/
theorem recordsRead : Obligations.RecordsRead := by
  intro b s s0 hm hp
  refine ⟨fun h => ?_, fun h => ?_, fun h idle => ?_, fun h run => ?_, fun i h site => ?_, fun i h site room => ?_,
    fun h high => ?_, fun h high => ?_⟩
  · exact ⟨_, exec_readStatus h, length_statusBytes s0,
      returned_served h hm hp (congrArg some (length_statusBytes s0).symm) nofun⟩
  · exact ⟨_, exec_readPeers h, length_peersBytes s0,
      returned_served h hm hp (congrArg some (length_peersBytes s0).symm) nofun⟩
  · rw [exec_readResult h, runActive_false idle]
    exact ⟨_, rfl, length_resultBytes _, returned_served h hm hp (congrArg some (length_resultBytes _).symm) nofun⟩
  · rw [exec_readResult h, runActive_true run]
    exact ⟨_, rfl, length_resultBytes _, returned_served h hm hp (congrArg some (length_resultBytes _).symm) nofun⟩
  · refine ⟨respondWith b .ok (siteBytes s0 i) s0, ?_, length_siteBytes s0 i,
      returned_served h hm hp (congrArg some (length_siteBytes s0 i).symm) nofun⟩
    rw [exec_readSite h]
    unfold readSiteOwner
    rw [site_of_op site]
  · refine ⟨respondWith b .ok (badBlockBytes s0 i) s0, ?_, length_badBlockBytes room,
      returned_served h hm hp (congrArg some (length_badBlockBytes room).symm) nofun⟩
    rw [exec_readBadBlocks h]
    unfold readBadBlocksOwner
    rw [site_of_op site]
  · rw [exec_readSite h]
    unfold readSiteOwner
    rw [site_none high]
  · rw [exec_readBadBlocks h]
    unfold readBadBlocksOwner
    rw [site_none high]

end Sys2Proof.Machine
end

section
/-! The give-up of the rail: what is handed over, what it waits for, and where it ends at once (R149, R154). -/

namespace Sys2Proof.Machine

/-! ## The give-up begun -/

/-- The Rail Share Unit giving up: nothing sought and nothing kept (R149, R150). -/
def givingUpRail (r : Rail) : Rail := { r with seeking := false, givingUp := true, kept := none }

/-- The outgoing set without CLAIM and WAIT (R149). -/
def claimless (o : Outgoing) : Outgoing := { o with claim := none, wait := none }

/-- A give-up begun, before anything is given back. -/
def giveUpBegun (s : State) : State := (s.withRail (givingUpRail s.rail)).withLink { s.link with out := claimless s.link.out }

theorem giveUp_eq (s : State) : giveUp s = giveUpSteps (giveUpBegun s) := rfl

/-- Once CLAIM and WAIT are removed, what keeps a give-up from its end is on the line, or a RELEASE or WITHDRAW pending. -/
theorem noRailFrame_giveUpBegun (s : State) : noRailFrame (giveUpBegun s).link =
    !(onLine s.link .claim || onLine s.link .wait || framePending s.link .release || framePending s.link .withdraw) := rfl

/-! ## What is given back -/

theorem giveBack_holding {s : State} (h : s.rail.st = .holding) (hp : framePending s.link .release = false) :
    giveBack s = handFrame (.release s.peers[s.link.own].held) s := by
  unfold giveBack
  rw [h]
  exact if_neg (Bool.eq_false_iff.mp hp)

theorem giveBack_waiting {s : State} (h : s.rail.st = .waiting) (hp : framePending s.link .withdraw = false) :
    giveBack s = handFrame .withdraw s := by
  unfold giveBack
  rw [h]
  exact if_neg (Bool.eq_false_iff.mp hp)

theorem giveBack_none {s : State} (h : s.rail.st = .none) : giveBack s = s := by
  unfold giveBack
  rw [h]

/-- Giving back hands over a RELEASE or a WITHDRAW, or nothing (R149). -/
theorem giveBack_cases (s : State) :
    giveBack s = s ∨ giveBack s = handFrame (.release s.peers[s.link.own].held) s ∨ giveBack s = handFrame .withdraw s := by
  unfold giveBack
  split
  · split
    · exact .inl rfl
    · exact .inr (.inl rfl)
  · split
    · exact .inl rfl
    · exact .inr (.inr rfl)
  · exact .inl rfl

theorem giveBack_link (s : State) : giveBack s = s.withLink (giveBack s).link := by
  rcases giveBack_cases s with h | h | h <;> rw [h]
  · rfl
  · exact handFrame_link _ s
  · exact handFrame_link _ s

/-- A frame handed over leaves the link as it stands. -/
theorem linkSends_handFrame (f : Frame) (s : State) : linkSends (handFrame f s) = linkSends s := by
  unfold handFrame linkSends
  split <;> rfl

theorem linkSends_giveBack (s : State) : linkSends (giveBack s) = linkSends s := by
  rcases giveBack_cases s with h | h | h <;> rw [h]
  · exact linkSends_handFrame _ s
  · exact linkSends_handFrame _ s

/-- A frame handed over takes no other kind out of the outgoing set. -/
theorem handFrame_claimless (f : Frame) {s : State} (hc : f.kind ≠ .claim) (hw : f.kind ≠ .wait) :
    (handFrame f s).link.out.claim = s.link.out.claim ∧ (handFrame f s).link.out.wait = s.link.out.wait := by
  unfold handFrame
  split
  · cases f with
    | claim => exact absurd rfl hc
    | wait => exact absurd rfl hw
    | _ => exact ⟨rfl, rfl⟩
  · exact ⟨rfl, rfl⟩

theorem giveBack_claimless (s : State) :
    (giveBack s).link.out.claim = s.link.out.claim ∧ (giveBack s).link.out.wait = s.link.out.wait := by
  rcases giveBack_cases s with h | h | h <;> rw [h]
  · exact ⟨rfl, rfl⟩
  · exact handFrame_claimless _ nofun nofun
  · exact handFrame_claimless _ nofun nofun

/-! ## Where a give-up stands -/

/-- The Rail Share Unit once a give-up has ended (R149, step 5). -/
def gaveUpRail (r : Rail) : Rail := { r with ownDemand := none, seeking := false, givingUp := false, kept := none }

/-- A give-up ends when the station has no rail state and nothing of its own is pending, and otherwise waits on a link that sends and
ends at the discard on one that does not (R149, R154). -/
theorem giveUp_steps (s : State) : giveUp s =
    if s.rail.st = .none ∧ noRailFrame (giveBack (giveUpBegun s)).link = true then
      (giveBack (giveUpBegun s)).withRail (gaveUpRail s.rail)
    else if linkSends s then giveBack (giveUpBegun s)
    else (giveBack (giveUpBegun s)).withRail { givingUpRail s.rail with givingUp := false } := by
  have rail : (giveBack (giveUpBegun s)).rail = givingUpRail s.rail := by rw [giveBack_link]; rfl
  have sends : linkSends (giveBack (giveUpBegun s)) = linkSends s := linkSends_giveBack _
  rw [giveUp_eq]
  unfold giveUpSteps
  refine (if_pos rfl).trans ?_
  dsimp only
  rw [sends]
  unfold endGiveUp
  rw [rail]
  rfl

/-- On a link that sends, a give-up goes on while the station has a rail state, or a frame of its own is pending (R149). -/
theorem giveUp_waits {s : State} (sends : linkSends s = true)
    (pending : s.rail.st ≠ .none ∨ noRailFrame (giveUpBegun s).link = false) : giveUp s = giveBack (giveUpBegun s) := by
  rw [giveUp_steps, if_neg, if_pos sends]
  rintro ⟨free, done⟩
  rw [giveBack_none (s := giveUpBegun s) free] at done
  rcases pending with rail | frame
  · exact rail free
  · exact Bool.false_ne_true (frame.symm.trans done)

/-- A station HOLDING gives its rail back by RELEASE (R149). -/
theorem giveUp_holding {s : State} (sends : linkSends s = true) (h : s.rail.st = .holding) (hp : framePending s.link .release = false) :
    giveUp s = handFrame (.release s.peers[s.link.own].held) (giveUpBegun s) :=
  (giveUp_waits sends (.inl (by rw [h]; nofun))).trans (giveBack_holding (s := giveUpBegun s) h hp)

/-- A WAITING station withdraws (R149). -/
theorem giveUp_waiting {s : State} (sends : linkSends s = true) (h : s.rail.st = .waiting) (hp : framePending s.link .withdraw = false) :
    giveUp s = handFrame .withdraw (giveUpBegun s) :=
  (giveUp_waits sends (.inl (by rw [h]; nofun))).trans (giveBack_waiting (s := giveUpBegun s) h hp)

/-- A station in NONE whose CLAIM or WAIT is on the line waits for its outcome (R149). -/
theorem giveUp_onLine {s : State} (sends : linkSends s = true) (h : s.rail.st = .none)
    (hl : onLine s.link .claim = true ∨ onLine s.link .wait = true) : giveUp s = giveUpBegun s := by
  refine (giveUp_waits sends (.inr ?_)).trans (giveBack_none (s := giveUpBegun s) h)
  rw [noRailFrame_giveUpBegun]
  rcases hl with hl | hl <;> simp [hl]

/-- A station in NONE with nothing of its own pending has given up at once (R149). -/
theorem giveUp_settled {s : State} (h : s.rail.st = .none) (done : noRailFrame (giveUpBegun s).link = true) :
    giveUp s = (giveUpBegun s).withRail (gaveUpRail s.rail) := by
  rw [giveUp_steps, giveBack_none (s := giveUpBegun s) h, if_pos ⟨h, done⟩]

/-- Nothing of the station's own is pending once it has removed its CLAIM and WAIT, with the line free and no RELEASE or WITHDRAW left. -/
theorem noRailFrame_lineFree {s : State} (line : s.link.attempt = none) (release : s.link.out.release = none)
    (withdraw : s.link.out.withdraw = false) : noRailFrame (giveUpBegun s).link = true := by
  rw [noRailFrame_giveUpBegun]
  simp [onLine, framePending, Outgoing.has, line, release, withdraw]

/-- A link that does not send discards what it is handed. -/
theorem handFrame_discarded {s : State} (f : Frame) (mute : linkSends s = false) : handFrame f s = s :=
  if_neg (Bool.eq_false_iff.mp mute)

/-- On a link that discards what it is handed, a give-up ends at the discard (R154). -/
theorem giveUp_discards {s : State} (mute : linkSends s = false) :
    (giveUp s).rail.givingUp = false ∧ (giveUp s).link = (giveUpBegun s).link := by
  have kept : giveBack (giveUpBegun s) = giveUpBegun s := by
    rcases giveBack_cases (giveUpBegun s) with h | h | h
    · exact h
    · exact h.trans (handFrame_discarded _ mute)
    · exact h.trans (handFrame_discarded _ mute)
  rw [giveUp_steps, kept, mute, if_neg Bool.false_ne_true]
  split <;> exact ⟨rfl, rfl⟩

/-- A give-up leaves the station seeking nothing, with no CLAIM and no WAIT in its outgoing set (R149). -/
theorem giveUp_seeks_nothing (s : State) : (giveUp s).rail.seeking = false ∧ (giveUp s).link.out.claim = none
    ∧ (giveUp s).link.out.wait = none := by
  obtain ⟨claim, wait⟩ := giveBack_claimless (giveUpBegun s)
  have rail : (giveBack (giveUpBegun s)).rail = givingUpRail s.rail := by rw [giveBack_link]; rfl
  rw [giveUp_steps]
  split
  · exact ⟨rfl, claim, wait⟩
  · split
    · exact ⟨congrArg Rail.seeking rail, claim, wait⟩
    · exact ⟨rfl, claim, wait⟩

end Sys2Proof.Machine
end

section
/-! How a PAUSING run comes to rest (R68, R71, R78). -/

namespace Sys2Proof.Machine

/-! ## Settling in three actions -/

/-- Three actions that leave nothing due settle the card. -/
theorem settle_thrice {s t u v : State} (hs : nextAction s = some t) (ht : nextAction t = some u) (hu : nextAction u = some v)
    (hv : nextAction v = none) : settle s = v := by
  have hf : settleFuel = (2 ^ 37 - 3) + 1 + 1 + 1 := by decide
  unfold settle
  rw [hf, settleFor_next hs, settleFor_next ht, settleFor_next hu]
  exact settleFor_rest hv _

/-! ## Completions beside the run -/

/-- A completion reads and writes the CWC, so it passes over a change of the run (R183). -/
theorem respond_withRun (b : Block) (r : Response) (s : State) (x : Run) : respond b r (s.withRun x) = (respond b r s).withRun x := by
  rw [(onlyCwc_respond b r (s.withRun x)).eq, (onlyCwc_respond b r s).eq, respond_cwc b r (s := s.withRun x) (t := s) rfl]
  rfl

theorem finishPause_withRun (r : Response) (s : State) (x : Run) : finishPause r (s.withRun x) = (finishPause r s).withRun x := by
  unfold finishPause
  show (match s.cwc.outPause with | none => s.withRun x | some b => _) = _
  cases s.cwc.outPause with
  | none => rfl
  | some b => exact respond_withRun b r (s.withCwc { s.cwc with outPause := none }) x

theorem finishPause_none {r : Response} {s : State} (h : s.cwc.outPause = none) : finishPause r s = s := by
  unfold finishPause
  rw [h]

theorem finishPause_some {r : Response} {s : State} {p : Block} (h : s.cwc.outPause = some p) :
    finishPause r s = respond p r (s.withCwc { s.cwc with outPause := none }) := by
  unfold finishPause
  rw [h]
  rfl

theorem finishPause_run (r : Response) (s : State) : (finishPause r s).run = s.run := by
  rw [(onlyCwc_finishPause r s).eq]
  rfl

theorem finishPause_hci (r : Response) (s : State) : (finishPause r s).hci = s.hci := by
  rw [(onlyCwc_finishPause r s).eq]
  rfl

theorem finishPause_store (r : Response) (s : State) : (finishPause r s).store = s.store := by
  rw [(onlyCwc_finishPause r s).eq]
  rfl

/-- The resume point reads the run and the store (R78). -/
theorem resumePoint_congr {s t : State} (run : t.run = s.run) (store : t.store = s.store) : resumePoint t = resumePoint s := by
  have profile : t.profile = s.profile := by unfold State.profile; rw [store]
  unfold resumePoint stepPoint
  rw [run, store, profile]

/-- The resume point of a run at a stage, whatever its state (R78). -/
def stagePoint (stage : Stage) (s : State) : Option ResumePoint := resumePoint (s.withRun { s.run with stage := stage })

theorem resumePoint_paused (stage : Stage) (s : State) :
    resumePoint (s.withRun { s.run with seq := .paused, stage := stage }) = stagePoint stage s := by
  cases stage <;> rfl

/-- A step about to begin resumes at its first phase (R78). -/
theorem stagePoint_begin {s : State} {rec : StepRecord} (hrec : s.run.record = some rec) :
    stagePoint .begin s = some { phase := firstPhaseOf s.profile rec, pass := s.run.pass } := by
  show s.run.record.map _ = _
  rw [hrec]
  rfl

/-- A pass without a claim resumes in its visits (R78). -/
theorem stagePoint_unclaimed {s : State} (hd : s.run.passDemand = 0) :
    stagePoint .visits s = some { phase := s.run.phase, pass := s.run.pass } :=
  congrArg (fun phase => some (ResumePoint.mk phase s.run.pass)) (if_pos hd)

/-- A pass that made a claim resumes in SUPPLY (R78). -/
theorem resumePoint_claimed {s : State} (hs : s.run.stage = .visits) (hd : s.run.passDemand ≠ 0) :
    resumePoint s = some { phase := .supply, pass := s.run.pass } := by
  unfold resumePoint
  rw [hs]
  exact congrArg (fun phase => some (ResumePoint.mk phase s.run.pass)) (if_neg hd)

theorem recordResume_eq (s : State) : recordResume s = s.withRun { s.run with resume := resumePoint s } := rfl

/-! ## A PAUSING run at rest at the head -/

/-- A PAUSING run that is not ending, the HCI quiet and no unit in flight: its next action is the sequencer's. -/
structure PausingRun (s : State) : Prop where
  pausing : s.run.seq = .pausing
  notEnding : s.run.ending = none
  quiet : HciQuiet s
  noUnit : s.run.inflight = none

theorem PausingRun.of_eq {s t : State} (h : PausingRun s) (seq : t.run.seq = s.run.seq) (ending : t.run.ending = s.run.ending)
    (inflight : t.run.inflight = s.run.inflight) (hci : t.hci = s.hci) : PausingRun t where
  pausing := seq.trans h.pausing
  notEnding := ending.trans h.notEnding
  quiet := by unfold HciQuiet; rw [hci]; exact h.quiet
  noUnit := inflight.trans h.noUnit

theorem sequencerDue_pausing {s : State} (h : s.run.seq = .pausing) (he : s.run.ending = none) :
    sequencerDue s = (pausingDue s).map recordResume := by
  unfold sequencerDue
  rw [h, he]

theorem PausingRun.next {s : State} (h : PausingRun s) : nextAction s = (pausingDue s).map recordResume := by
  obtain ⟨-, held, drop⟩ := h.quiet
  unfold nextAction
  rw [hciDue_empty held drop, unitDue_none h.noUnit, sequencerDue_pausing h.pausing h.notEnding]

theorem PausingRun.next_of_due {s t : State} (h : PausingRun s) (due : pausingDue s = some t) : nextAction s = some (recordResume t) := by
  rw [h.next, due]
  rfl

theorem PausingRun.rest {s : State} (h : PausingRun s) (due : pausingDue s = none) : nextAction s = none := by
  rw [h.next, due]
  rfl

/-- The run stays PAUSING over an action that leaves its state, its end cause, its unit and the HCI. -/
theorem PausingRun.recorded {s : State} (h : PausingRun s) : PausingRun (recordResume s) := h.of_eq rfl rfl rfl rfl

/-! ## PAUSED -/

/-- The run record of a run that has become PAUSED at a stage (R78). -/
def pausedRun (stage : Stage) (point : Option ResumePoint) (r : Run) : Run := { r with seq := .paused, stage := stage, resume := point }

/-- The card with its run PAUSED at a stage, and the PAUSE block completed OK (R77, R78). -/
def pausedAt (stage : Stage) (point : Option ResumePoint) (s : State) : State :=
  finishPause .ok (s.withRun (pausedRun stage point s.run))

/-- A run that becomes PAUSED records the resume point of the stage it stands at (R78). -/
theorem recordResume_becomePaused (stage : Stage) (s : State) : recordResume (becomePaused stage s) =
    pausedAt stage (stagePoint stage s) s := by
  have run : (becomePaused stage s).run = { s.run with seq := .paused, stage := stage } := finishPause_run _ _
  have store : (becomePaused stage s).store = s.store := finishPause_store _ _
  rw [recordResume_eq, resumePoint_congr (s := s.withRun { s.run with seq := .paused, stage := stage }) run store, resumePoint_paused, run]
  exact (finishPause_withRun .ok _ _).symm

/-- A PAUSED run that is not ending waits for its RESUME (R78, R80). -/
theorem sequencerDue_paused {s : State} (h : s.run.seq = .paused) (he : s.run.ending = none) : sequencerDue s = none := by
  unfold sequencerDue
  rw [h, he]

theorem pausedAt_run (stage : Stage) (point : Option ResumePoint) (s : State) :
    (pausedAt stage point s).run = pausedRun stage point s.run := finishPause_run _ _

theorem pausedAt_outPause (stage : Stage) (point : Option ResumePoint) (s : State) : (pausedAt stage point s).cwc.outPause = none :=
  (finishPause_outs _ _).2.2

/-- A PAUSED run has nothing due. -/
theorem pausedAt_rest {s : State} (h : PausingRun s) (stage : Stage) (point : Option ResumePoint) :
    nextAction (pausedAt stage point s) = none := by
  have run := pausedAt_run stage point s
  have hci : (pausedAt stage point s).hci = s.hci := finishPause_hci _ _
  obtain ⟨-, held, drop⟩ := h.quiet
  refine nextAction_none (hciDue_empty ?_ ?_) (unitDue_none ?_) (sequencerDue_paused ?_ ?_)
  · rw [hci]; exact held
  · rw [hci]; exact drop
  · rw [run]; exact h.noUnit
  · rw [run]; rfl
  · rw [run]; exact h.notEnding

/-- A PAUSING run that becomes PAUSED next, with the resume point of that stage. -/
theorem PausingRun.next_paused {s : State} (h : PausingRun s) {stage : Stage} {point : Option ResumePoint}
    (due : pausingDue s = some (becomePaused stage s))
    (hp : stagePoint stage s = point) :
    nextAction s = some (pausedAt stage point s) := by
  rw [h.next_of_due due, recordResume_becomePaused, hp]

theorem PausingRun.settle_paused {s : State} (h : PausingRun s) {stage : Stage} {point : Option ResumePoint}
    (due : pausingDue s = some (becomePaused stage s))
    (hp : stagePoint stage s = point) :
    settle s = pausedAt stage point s :=
  settle_once (h.next_paused due hp) (pausedAt_rest h stage point)

end Sys2Proof.Machine
end

section
/-! A PAUSING run stage by stage: where it is PAUSED, what it gives back first, and how an exit or an entry goes on (R63, R68, R71, R78). -/

namespace Sys2Proof.Machine

/-! ## What is due, by the stage -/

theorem pausingDue_begin {s : State} (hs : s.run.stage = .begin) : pausingDue s = some (becomePaused .begin s) := by
  unfold pausingDue
  rw [hs]

theorem pausingDue_passStart {s : State} (hs : s.run.stage = .passStart) : pausingDue s = some (becomePaused .passStart s) := by
  unfold pausingDue
  rw [hs]

theorem pausingDue_dwell {s : State} (hs : s.run.stage = .dwell) : pausingDue s = some (becomePaused .dwell s) := by
  unfold pausingDue
  rw [hs]

theorem pausingDue_sync {s : State} (hs : s.run.stage = .sync) : pausingDue s = some (becomePaused .sync s) := by
  unfold pausingDue
  rw [hs]

theorem pausingDue_contact {s : State} (hs : s.run.stage = .contact) : pausingDue s = none := by
  unfold pausingDue
  rw [hs]

theorem pausingDue_enter {s : State} {k : Nat} {rec : StepRecord} (hs : s.run.stage = .enter k)
    (hrec : (s.store.steps[k]?).join = some rec) : pausingDue s = some (enterStep k rec s) := by
  unfold pausingDue
  rw [hs]
  show enterDue k s = _
  unfold enterDue
  rw [hrec]

theorem pausingDue_reenter {s : State} {fromSupply : Bool} (hs : s.run.stage = .reenter fromSupply) :
    pausingDue s = if s.rail.givingUp then none else some (becomePaused (.reenter fromSupply) s) := by
  unfold pausingDue
  rw [hs]

theorem pausingDue_supply {s : State} (hs : s.run.stage = .supply) :
    pausingDue s = if railSettled s then some (becomePaused (.reenter true) s) else none := by
  unfold pausingDue
  rw [hs]

theorem pausingDue_closing {s : State} (hs : s.run.stage = .closing) :
    pausingDue s = if s.rail.st = .none then some (s.withRun { s.run with stage := .passStart }) else none := by
  unfold pausingDue
  rw [hs]
  rfl

theorem pausingDue_exit {s : State} (hs : s.run.stage = .exit) :
    pausingDue s = if s.rail.st = .none then some (exitStep s) else none := by
  unfold pausingDue
  rw [hs]

/-- A pass whose unit is in flight waits for it (R78). -/
theorem pausingDue_inflight {s : State} {u : Flight} (hs : s.run.stage = .visits) (hu : s.run.inflight = some u) :
    pausingDue s = none := by
  unfold pausingDue
  rw [hs, hu]
  exact if_pos (.inl rfl)

/-- In the visits of a pass with no unit in flight: PAUSED without a claim or with its rail settled, and otherwise the rail is given back
first (R78). -/
theorem PausingRun.due_visits {s : State} (h : PausingRun s) (hs : s.run.stage = .visits) (hu : s.uag.ended = false) : pausingDue s =
    if s.run.passDemand = 0 then some (becomePaused .visits s)
    else if railSettled s then some (becomePaused (.reenter false) s)
    else if s.rail.givingUp then none
    else if s.rail.st = .holding ∧ linkSends s then some (giveUp s) else none := by
  unfold pausingDue
  rw [hs, h.noUnit, dropBusy_quiet h.quiet, hu]
  rfl

/-- A rail that is being given back is not settled (R78). -/
theorem railSettled_givingUp {s : State} (h : s.rail.givingUp = true) : railSettled s = false := by simp [railSettled, h]

theorem railSettled_held {s : State} (h : s.rail.st ≠ .none) : railSettled s = false := by simp [railSettled, h]

/-! ## PAUSED where it stands -/

/-- The start of a next pass is PAUSED before the pass begins (R78). -/
theorem PausingRun.settle_closing {s : State} (h : PausingRun s) (hs : s.run.stage = .closing) (hr : s.rail.st = .none) :
    settle s = pausedAt .passStart (some { phase := .supply, pass := s.run.pass + 1 }) s := by
  have begun : PausingRun (recordResume (s.withRun { s.run with stage := .passStart })) := h.of_eq rfl rfl rfl rfl
  have next := h.next_of_due ((pausingDue_closing hs).trans (if_pos hr))
  exact settle_twice next (begun.next_paused (pausingDue_passStart rfl) rfl) (pausedAt_rest begun _ _)

/-! ## A pass that holds rail -/

/-- A claimed pass whose rail is being given back waits for it (R78). -/
theorem PausingRun.rest_givingUp {s : State} (h : PausingRun s) (hs : s.run.stage = .visits) (hu : s.uag.ended = false)
    (hd : s.run.passDemand ≠ 0) (hg : s.rail.givingUp = true) : nextAction s = none := by
  refine h.rest ?_
  rw [h.due_visits hs hu, if_neg hd, railSettled_givingUp hg, hg]
  rfl

/-- A claimed pass that holds rail hands over RELEASE, and waits with its resume point recorded (R78, R149). -/
theorem PausingRun.settle_holding {s : State} (h : PausingRun s) (hs : s.run.stage = .visits) (hu : s.uag.ended = false)
    (hd : s.run.passDemand ≠ 0) (hr : s.rail.st = .holding) (hg : s.rail.givingUp = false) (sends : linkSends s = true)
    (hp : framePending s.link .release = false) :
    settle s = recordResume (handFrame (.release s.peers[s.link.own].held) (giveUpBegun s)) := by
  have due : pausingDue s = some (handFrame (.release s.peers[s.link.own].held) (giveUpBegun s)) := by
    rw [h.due_visits hs hu, if_neg hd, railSettled_held (by rw [hr]; nofun), hg, ← giveUp_holding sends hr hp]
    exact (if_neg Bool.false_ne_true).trans ((if_neg Bool.false_ne_true).trans (if_pos ⟨hr, sends⟩))
  refine settle_once (h.next_of_due due) ?_
  rw [handFrame_link]
  have waiting : PausingRun (recordResume ((giveUpBegun s).withLink (handFrame (.release s.peers[s.link.own].held) (giveUpBegun s)).link)) :=
    h.of_eq rfl rfl rfl rfl
  exact waiting.rest_givingUp hs hu hd rfl

/-! ## An entry, and an exit before it -/

/-- A step entered with a pass plan: its run record, and the HCI, the CWC and the store as they were (R63, R64). -/
theorem enterStep_planned {k : Nat} {rec : StepRecord} {s : State} (hn : activeCount s ≠ 0)
    (hp : stepDraw s.profile rec = 0 ∨ passSelection (activeCount s) (stepDraw s.profile rec) (currentLimit s) ≠ none) :
    ∃ passes size members, (enterStep k rec s).run = entryRun k rec passes size members s.run
      ∧ (enterStep k rec s).hci = s.hci ∧ (enterStep k rec s).store = s.store := by
  have active : ∃ i : Site, s.sites[i].state = .active := by
    by_contra none
    exact hn ((activeCount_eq_zero_iff s).mpr (not_exists.mp none))
  have planned (t : TimedStep) (kind : AddrKind) (a : AddrPart) :
      ∃ passes size members, (formPassPlan (timedEntry k rec t kind a s)).run = entryRun k rec passes size members s.run
        ∧ (formPassPlan (timedEntry k rec t kind a s)).hci = s.hci ∧ (formPassPlan (timedEntry k rec t kind a s)).store = s.store := by
    by_cases hd : stepDraw s.profile rec = 0
    · rw [formPassPlan_timedEntry_undrawn k rec t kind a s hd]
      exact ⟨_, _, _, rfl, rfl, rfl⟩
    · obtain ⟨⟨m, p⟩, hsel⟩ := Option.ne_none_iff_exists'.mp (hp.resolve_left hd)
      rw [formPassPlan_timedEntry_some k rec t kind a s hd hsel]
      exact ⟨_, _, _, rfl, rfl, rfl⟩
  cases rec with
  | erase a own bin action =>
    rw [enterStep_timed active (.inl ⟨rfl, rfl, rfl⟩)]
    exact planned _ _ _
  | program a data own bin action =>
    rw [enterStep_timed active (.inr ⟨⟨data, rfl⟩, rfl, rfl⟩)]
    exact planned _ _ _
  | verify =>
    rw [enterStep_verify active]
    exact ⟨_, _, _, rfl, rfl, rfl⟩
  | dwell | sync =>
    rw [enterStep_unaddressed active rfl]
    exact ⟨_, _, _, rfl, rfl, rfl⟩

/-- A run about to begin a step's first phase is PAUSED before it (R78). -/
theorem PausingRun.next_begin {s : State} (h : PausingRun s) {rec : StepRecord} (hs : s.run.stage = .begin)
    (hrec : s.run.record = some rec) (hp : s.run.pass = 0) :
    nextAction s = some (pausedAt .begin (some { phase := firstPhaseOf s.profile rec, pass := 0 }) s) := by
  refine h.next_paused (pausingDue_begin hs) ((stagePoint_begin hrec).trans ?_)
  rw [hp]

/-- Step k has been entered and its run PAUSED before its first phase, with `done` steps of the run completed (R78). -/
structure EntryPaused (k : Nat) (rec : StepRecord) (pr : Profile) (done : Nat) (t : State) : Prop where
  seq : t.run.seq = .paused
  stage : t.run.stage = .begin
  current : t.run.current = some k
  pass : t.run.pass = 0
  completed : t.run.stepsCompleted = done
  resume : t.run.resume = some { phase := firstPhaseOf pr rec, pass := 0 }
  outPause : t.cwc.outPause = none

/-- A step that is due is entered, and then PAUSED before its first phase (R63, R78). -/
theorem PausingRun.enter_paused {s : State} (h : PausingRun s) {k : Nat} {rec : StepRecord} (hs : s.run.stage = .enter k)
    (hrec : (s.store.steps[k]?).join = some rec) (hn : activeCount s ≠ 0)
    (hp : stepDraw s.profile rec = 0 ∨ passSelection (activeCount s) (stepDraw s.profile rec) (currentLimit s) ≠ none) :
    ∃ t u, nextAction s = some t ∧ nextAction t = some u ∧ nextAction u = none
      ∧ EntryPaused k rec s.profile s.run.stepsCompleted u := by
  obtain ⟨passes, size, members, entered, hci, store⟩ := enterStep_planned (k := k) hn hp
  obtain ⟨e, he⟩ : ∃ e, e = recordResume (enterStep k rec s) := ⟨_, rfl⟩
  have run : e.run = { entryRun k rec passes size members s.run with resume := resumePoint (enterStep k rec s) } := by
    rw [he, recordResume_eq, entered]
    rfl
  have profile : e.profile = s.profile := by
    rw [he]
    show (enterStep k rec s).store.profile.getD Profile.blank = _
    rw [store]
    rfl
  have free : PausingRun e := h.of_eq (by rw [run]; rfl) (by rw [run]; rfl) (by rw [run]; rfl) (by rw [he]; exact hci)
  have paused := free.next_begin (rec := rec) (by rw [run]; rfl) (by rw [run]; rfl) (by rw [run]; rfl)
  rw [profile] at paused
  refine ⟨e, _, by rw [he]; exact h.next_of_due (pausingDue_enter hs hrec), paused, pausedAt_rest free _ _, ?_⟩
  constructor
  case outPause => exact pausedAt_outPause _ _ _
  all_goals
    rw [pausedAt_run, run]
    rfl

/-- An exit that is not the last goes on into the entry of the next step (R71, R78). -/
theorem PausingRun.next_exit {s : State} (h : PausingRun s) {k : Nat} (hs : s.run.stage = .exit) (hr : s.rail.st = .none)
    (hk : s.run.current = some k) (hl : k < s.run.last) : nextAction s = some (recordResume (s.withRun { s.run with
      stepsCompleted := s.run.stepsCompleted + 1, pass := 0, phase := .entry, stage := .enter (k + 1) })) := by
  have next : exitStep s = s.withRun { s.run with
      stepsCompleted := s.run.stepsCompleted + 1, pass := 0, phase := .entry, stage := .enter (k + 1) } := by
    unfold exitStep
    rw [hk]
    exact if_neg (Nat.not_le.mpr hl)
  rw [← next]
  exact h.next_of_due ((pausingDue_exit hs).trans (if_pos hr))

/-- Settles O18: by its stage the run is PAUSED where it stands, gives its rail back, or goes on into the next step's entry. -/
theorem pausingSettles : Obligations.PausingSettles := by
  intro s pausing notEnding quiet noUnit
  have h : PausingRun s := ⟨pausing, notEnding, quiet, noUnit⟩
  refine ⟨fun st point rec stands => ?_, fun hs hu hd hr hg sends hp => ?_, fun k rec stands hrec hn hp => ?_⟩
  · rcases stands with ⟨hs, hu, hd, rfl, rfl⟩ | ⟨hs, hu, hd, hr, rfl, rfl⟩ | ⟨hs, hr, rfl, rfl⟩ | ⟨hs, hg, hst, rfl⟩ | ⟨hs, hrec, rfl, rfl⟩
      | ⟨hs, hr, rfl, rfl⟩
    case inl => exact h.settle_paused ((h.due_visits hs hu).trans (if_pos hd)) (stagePoint_unclaimed hd)
    case inr.inl => exact h.settle_paused ((h.due_visits hs hu).trans ((if_neg hd).trans (if_pos hr))) rfl
    case inr.inr.inl => exact h.settle_paused ((pausingDue_supply hs).trans (if_pos hr)) rfl
    case inr.inr.inr.inl =>
      have free : ¬ s.rail.givingUp = true := Bool.eq_false_iff.mp hg
      rcases hst with rfl | rfl <;> exact h.settle_paused ((pausingDue_reenter hs).trans (if_neg free)) rfl
    case inr.inr.inr.inr.inl => exact h.settle_paused (pausingDue_begin hs) (stagePoint_begin hrec)
    case inr.inr.inr.inr.inr => exact h.settle_closing hs hr
  · rw [h.settle_holding hs hu hd hr hg sends hp]
    refine ⟨?_, ?_, ?_, ?_⟩
    · exact handFrame_out (s := giveUpBegun s) sends
    · exact handFrame_rail _ _
    · rw [handFrame_link, recordResume_eq]
      exact congrArg (fun point => { s.run with resume := point }) (resumePoint_claimed (s := (giveUpBegun s).withLink _) hs hd)
    · rw [handFrame_link]
      rfl
  · rcases stands with hs | ⟨hs, hr, hk, low, high⟩
    · obtain ⟨t, u, enters, pauses, rests, paused⟩ := h.enter_paused hs hrec hn hp
      rw [settle_twice enters pauses rests]
      exact ⟨paused.seq, paused.stage, paused.current, paused.pass, by rw [paused.completed, hs]; rfl, paused.resume, paused.outPause⟩
    · have exits := h.next_exit hs hr hk (by omega)
      rw [Nat.sub_add_cancel low] at exits
      have due : PausingRun (recordResume (s.withRun { s.run with
          stepsCompleted := s.run.stepsCompleted + 1, pass := 0, phase := .entry, stage := .enter k })) := h.of_eq rfl rfl rfl rfl
      obtain ⟨t, u, enters, pauses, rests, paused⟩ := due.enter_paused rfl hrec hn hp
      rw [settle_thrice exits enters pauses rests]
      exact ⟨paused.seq, paused.stage, paused.current, paused.pass, by rw [paused.completed, hs]; rfl, paused.resume, paused.outPause⟩

end Sys2Proof.Machine
end

section
/-! PAUSE taken: held within the guard, PAUSED at once, or PAUSING with its resume point (R77, R78, R81). -/

namespace Sys2Proof.Machine

/-! ## Resume points -/

theorem resumePoint_supply {s : State} (hs : s.run.stage = .supply) : resumePoint s = some { phase := .supply, pass := s.run.pass } := by
  unfold resumePoint
  rw [hs]

/-- The resume point at a step not yet entered is its first phase, and none where no step is defined (R78). -/
theorem stepPoint_eq {k : Nat} {s : State} {point : Option ResumePoint}
    (defined : ∀ rec, (s.store.steps[k]?).join = some rec → point = some { phase := firstPhaseOf s.profile rec, pass := 0 })
    (undefined : (s.store.steps[k]?).join = none → point = none) : stepPoint k s = point := by
  unfold stepPoint
  cases hrec : (s.store.steps[k]?).join with
  | none => exact (undefined hrec).symm
  | some rec => exact (defined rec hrec).symm

/-- The resume point of a run that leaves its step: at the next one, and none after the last (R78). -/
theorem resumePoint_exit {s : State} {k : Nat} (hs : s.run.stage = .exit) (hk : s.run.current = some k) :
    resumePoint s = if s.run.last ≤ k then none else stepPoint (k + 1) s := by
  unfold resumePoint
  rw [hs, hk]
  rfl

/-! ## PAUSE accepted -/

/-- The block of an accepted PAUSE outstanding. -/
def pauseOutstanding (b : Block) (s : State) : State := s.withCwc { s.cwc with outPause := some b }

/-- A pause that takes effect, before the supply is given up: PAUSING with the resume point of the stage found (R78). -/
def pausingFrom (s : State) : State :=
  s.withRun { s.run with seq := .pausing, heldPause := false, resume := resumePoint s }

theorem pauseTakesEffect_eq (s : State) : pauseTakesEffect s = if s.run.stage = .supply then giveUp (pausingFrom s) else pausingFrom s := rfl

/-- PAUSE past its conditions: held while the guard runs, and otherwise in effect (R77, R81). -/
theorem exec_pause_accepted {b : Block} {s s0 : State} (h : Served .pause b s s0) (running : s0.run.seq = .running)
    (notEnding : s0.run.ending = none) (noPause : s0.cwc.outPause = none) : exec .pause s = .next
      (if s0.run.guardRem ≠ 0 then (pauseOutstanding b s0).withRun { s0.run with heldPause := true }
       else settle (pauseTakesEffect (pauseOutstanding b s0))) := by
  rw [exec_pause h]
  refine congrArg _ (guarded_accepted ?_)
  simp [pauseChecks, firstRefusal, running, notEnding, noPause]

/-! ## PAUSED at once -/

/-- A PAUSE block alone outstanding is completed OK as the run becomes PAUSED, which leaves the CWC otherwise as it was (R77). -/
theorem pausedAt_completes {b : Block} {c : Cwc} {s : State} (stage : Stage) (point : Option ResumePoint) (none : c.outPause = none)
    (outstanding : s.cwc = { c with outPause := some b }) :
    pausedAt stage point s = respond b .ok ((s.withCwc c).withRun (pausedRun stage point s.run)) := by
  have restored : { s.cwc with outPause := Option.none } = c := by rw [outstanding, ← none]
  have held : (s.withRun (pausedRun stage point s.run)).cwc.outPause = some b := congrArg Cwc.outPause outstanding
  unfold pausedAt
  rw [finishPause_some held, ← restored]
  rfl

/-- A run that is not ending, the HCI quiet and no unit in flight, is at rest at the head once its pause takes effect. -/
theorem pausingRun_of_run {s t : State} (run : t.run = { s.run with seq := .pausing, heldPause := false, resume := resumePoint s })
    (hci : t.hci = s.hci) (notEnding : s.run.ending = none) (quiet : HciQuiet s) (noUnit : s.run.inflight = none) : PausingRun t where
  pausing := by rw [run]
  notEnding := by rw [run]; exact notEnding
  quiet := by unfold HciQuiet; rw [hci]; exact quiet
  noUnit := by rw [run]; exact noUnit

/-- In phase DWELL or SYNC with nothing to send, a pause is PAUSED at once (R77). -/
theorem settle_pause_waiting {s : State} (notEnding : s.run.ending = none) (quiet : HciQuiet s) (noUnit : s.run.inflight = none) :
    (s.run.stage = .dwell → settle (pauseTakesEffect s) =
      pausedAt .dwell (some { phase := .dwell, pass := s.run.pass }) (pausingFrom s))
    ∧ (s.run.stage = .sync → settle (pauseTakesEffect s) =
      pausedAt .sync (some { phase := .sync, pass := s.run.pass }) (pausingFrom s)) := by
  have pausing : PausingRun (pausingFrom s) := pausingRun_of_run rfl rfl notEnding quiet noUnit
  constructor <;> intro hs <;> rw [pauseTakesEffect_eq, if_neg (by rw [hs]; nofun)]
  · exact pausing.settle_paused (pausingDue_dwell hs) rfl
  · exact pausing.settle_paused (pausingDue_sync hs) rfl

/-- The rail is settled once a give-up has ended (R78, R149). -/
theorem railSettled_gaveUp {s : State} (h : s.rail.st = .none) (done : noRailFrame (giveUpBegun s).link = true) :
    railSettled ((giveUpBegun s).withRail (gaveUpRail s.rail)) = true := by
  show (s.rail.st == .none && noRailFrame (giveUpBegun s).link && !false) = true
  rw [h, done]
  rfl

/-- In SUPPLY with nothing of the station's awaited, a pause drops the demand and is PAUSED at once (R77, R149). -/
theorem settle_pause_supply {s : State} (notEnding : s.run.ending = none) (quiet : HciQuiet s) (noUnit : s.run.inflight = none)
    (hs : s.run.stage = .supply) (hr : s.rail.st = .none) (done : noRailFrame (giveUpBegun s).link = true) :
    settle (pauseTakesEffect s) = pausedAt (.reenter true) (some { phase := .supply, pass := s.run.pass })
      ((giveUpBegun (pausingFrom s)).withRail (gaveUpRail s.rail)) := by
  have pausing : PausingRun ((giveUpBegun (pausingFrom s)).withRail (gaveUpRail s.rail)) :=
    pausingRun_of_run rfl rfl notEnding quiet noUnit
  have due := (pausingDue_supply (s := (giveUpBegun (pausingFrom s)).withRail (gaveUpRail s.rail)) hs).trans
    (if_pos (railSettled_gaveUp (s := pausingFrom s) hr done))
  rw [pauseTakesEffect_eq, if_pos hs, giveUp_settled (s := pausingFrom s) hr done]
  exact pausing.settle_paused due rfl

/-! ## PAUSING -/

/-- In SUPPLY a pause that waits for its give-up is PAUSING (R78, R149). -/
theorem settle_pause_givingUp {s : State} (notEnding : s.run.ending = none) (quiet : HciQuiet s) (noUnit : s.run.inflight = none)
    (hs : s.run.stage = .supply) (hg : (giveUp (pausingFrom s)).rail.givingUp = true) :
    settle (pauseTakesEffect s) = giveUp (pausingFrom s) := by
  obtain ⟨l, p, r, y, side⟩ := linkSideOnly_giveUp (pausingFrom s)
  have run : (giveUp (pausingFrom s)).run = (pausingFrom s).run := by rw [side]
  have pausing : PausingRun (giveUp (pausingFrom s)) := pausingRun_of_run run (by rw [side]; rfl) notEnding quiet noUnit
  have due := (pausingDue_supply (s := giveUp (pausingFrom s)) (by rw [run]; exact hs)).trans
    (if_neg (Bool.eq_false_iff.mp (railSettled_givingUp hg)))
  rw [pauseTakesEffect_eq, if_pos hs]
  exact settle_rest (pausing.rest due)

/-- A WAITING station withdraws, and one whose CLAIM or WAIT is on the line waits for its outcome (R149). -/
theorem giveUp_awaits {s : State} (sends : linkSends s = true)
    (awaited : (s.rail.st = .waiting ∧ framePending s.link .withdraw = false)
      ∨ (s.rail.st = .none ∧ (onLine s.link .claim = true ∨ onLine s.link .wait = true))) :
    (giveUp s).rail = givingUpRail s.rail ∧ (giveUp s).link.out =
      { claimless s.link.out with withdraw := if s.rail.st = .waiting then true else s.link.out.withdraw } := by
  rcases awaited with ⟨hr, hp⟩ | ⟨hr, line⟩
  · rw [giveUp_waiting sends hr hp, handFrame_out (s := giveUpBegun s) sends, if_pos hr]
    exact ⟨handFrame_rail _ _, rfl⟩
  · rw [giveUp_onLine sends hr line, if_neg (by rw [hr]; nofun)]
    exact ⟨rfl, rfl⟩

/-- A unit whose ACCEPT or RESULT is awaited, or one of whose sites is busy, is not resolved (R9). -/
theorem unitDue_awaited {s : State} {u : Flight} (hu : s.run.inflight = some u)
    (h : u.kind ≠ .operate true ∨ ∃ i : Site, u.mask.getLsbD i = true ∧ s.sites[i].busy = true) : unitDue s = none := by
  unfold unitDue
  rw [hu]
  refine if_neg fun ⟨accepted, idle⟩ => ?_
  rcases h with h | ⟨i, named, busy⟩
  · exact h accepted
  · exact Bool.false_ne_true (((noneBusy_iff u.mask s).mp idle i named).symm.trans busy)

/-- A PAUSING run with nothing to send, its unit awaited and nothing due by its stage, is at rest. -/
theorem settle_pause_waits {s : State} (notEnding : s.run.ending = none) (head : s.hci.outstanding ≠ none ∨ HciQuiet s)
    (unit : unitDue (pausingFrom s) = none) (hs : s.run.stage ≠ .supply) (due : pausingDue (pausingFrom s) = none) :
    settle (pauseTakesEffect s) = pausingFrom s := by
  rw [pauseTakesEffect_eq, if_neg hs]
  refine settle_rest (nextAction_none (hciDue_none (s := pausingFrom s) head) unit ?_)
  rw [sequencerDue_pausing (s := pausingFrom s) rfl notEnding, due]
  rfl

/-- Settles O17: the branch of the stage found, with what it awaits. -/
theorem pauseTaken : Obligations.PauseTaken := by
  intro b s s0 h running notEnding noPause
  rw [exec_pause_accepted h running notEnding noPause]
  refine ⟨fun guard => congrArg _ (if_pos guard), fun guard quiet noUnit hs => ?_, fun guard quiet noUnit hs => ?_,
    fun guard quiet noUnit hs hr line release withdraw => ?_, fun guard quiet noUnit hs sends awaited => ?_,
    fun guard head point stands => ?_⟩
  all_goals rw [if_neg (not_not.mpr guard)]
  · rw [(settle_pause_waiting (s := pauseOutstanding b s0) notEnding quiet noUnit).1 hs, pausedAt_completes _ _ noPause rfl, ← hs]
    rfl
  · rw [(settle_pause_waiting (s := pauseOutstanding b s0) notEnding quiet noUnit).2 hs, pausedAt_completes _ _ noPause rfl, ← hs]
    rfl
  · rw [settle_pause_supply (s := pauseOutstanding b s0) notEnding quiet noUnit hs hr (noRailFrame_lineFree line release withdraw),
      pausedAt_completes _ _ noPause rfl]
    rfl
  · obtain ⟨rail, out⟩ := giveUp_awaits (s := pausingFrom (pauseOutstanding b s0)) sends awaited
    obtain ⟨l, p, r, y, side⟩ := linkSideOnly_giveUp (pausingFrom (pauseOutstanding b s0))
    rw [settle_pause_givingUp (s := pauseOutstanding b s0) notEnding quiet noUnit hs (congrArg Rail.givingUp rail)]
    refine ⟨_, rfl, ?_, rail, out, by rw [side]; rfl⟩
    rw [side]
    exact congrArg (fun point => { s0.run with seq := .pausing, heldPause := false, resume := point }) (resumePoint_supply hs)
  · have waits (unit : unitDue (pausingFrom (pauseOutstanding b s0)) = none) (hs : s0.run.stage ≠ .supply)
        (due : pausingDue (pausingFrom (pauseOutstanding b s0)) = none) (hp : resumePoint s0 = point) :
        Host.Outcome.next (settle (pauseTakesEffect (pauseOutstanding b s0))) = (.next ((s0.withCwc { s0.cwc with
          outPause := some b }).withRun { s0.run with seq := .pausing, heldPause := false, resume := point }) :
          Host.Outcome State Fault Refusal) := by
      rw [settle_pause_waits (s := pauseOutstanding b s0) notEnding head unit hs due, ← hp]
      rfl
    rcases stands with ⟨hs, noUnit, defined, undefined⟩ | ⟨u, hs, inflight, awaited, rfl⟩ | ⟨hs, noUnit, hr, rfl⟩
      | ⟨fromSupply, hs, noUnit, hg, rfl⟩ | ⟨k, hs, noUnit, hr, hk, final, defined, undefined⟩
    case inl =>
      refine waits (unitDue_none noUnit) (by rw [hs]; nofun) (pausingDue_contact hs) ?_
      unfold resumePoint
      rw [hs]
      exact stepPoint_eq defined undefined
    case inr.inl =>
      refine waits (unitDue_awaited (s := pausingFrom (pauseOutstanding b s0)) inflight awaited) (by rw [hs]; nofun)
        (pausingDue_inflight (s := pausingFrom (pauseOutstanding b s0)) hs inflight) ?_
      unfold resumePoint
      rw [hs]
    case inr.inr.inl =>
      refine waits (unitDue_none noUnit) (by rw [hs]; nofun)
        ((pausingDue_closing (s := pausingFrom (pauseOutstanding b s0)) hs).trans (if_neg hr)) ?_
      unfold resumePoint
      rw [hs]
    case inr.inr.inr.inl =>
      refine waits (unitDue_none noUnit) (by rw [hs]; nofun)
        ((pausingDue_reenter (s := pausingFrom (pauseOutstanding b s0)) hs).trans (if_pos hg)) ?_
      unfold resumePoint
      rw [hs]
    case inr.inr.inr.inr =>
      refine waits (unitDue_none noUnit) (by rw [hs]; nofun)
        ((pausingDue_exit (s := pausingFrom (pauseOutstanding b s0)) hs).trans (if_neg hr)) ?_
      rw [resumePoint_exit hs hk]
      split
      next last => exact (final last).symm
      next more =>
        have more := Nat.not_le.mp more
        exact stepPoint_eq (fun rec => defined rec more) (undefined more)

end Sys2Proof.Machine
end

section
/-! RESUME: a held or settling PAUSE cancelled, or a PAUSED run continued, with the resume guard loaded (R70, R80, R81, R150). -/

namespace Sys2Proof.Machine

/-- RESUME past its conditions: its effect, the guard loaded, and what is due then (R80, R81). -/
theorem exec_resume_accepted {b : Block} {s s0 : State} (h : Served .resume b s s0) (notEnding : s0.run.ending = none)
    (pause : s0.run.seq = .running ∧ s0.run.heldPause = true ∨ s0.run.seq = .pausing ∨ s0.run.seq = .paused) :
    exec .resume s = .next (settle (respond b .ok (loadGuard (resumeRun s0)))) := by
  rw [exec_resume h]
  refine congrArg _ (guarded_accepted ?_)
  rcases pause with ⟨seq, held⟩ | seq | seq
  · simp [resumeChecks, firstRefusal, seq, held, notEnding]
  · simp [resumeChecks, firstRefusal, seq, notEnding]
  · simp [resumeChecks, firstRefusal, seq, notEnding]

/-- The guard is loaded beside the completion of the PAUSE block (R80, R81). -/
theorem loadGuard_cancelled {s : State} {p : Block} (x : Run) (h : s.cwc.outPause = some p) :
    loadGuard (finishPause .cancelled (s.withRun x)) =
      respond p .cancelled ((s.withCwc { s.cwc with outPause := none }).withRun { x with guardRem := 2000 }) := by
  have loaded : loadGuard (finishPause .cancelled (s.withRun x)) =
      finishPause .cancelled (s.withRun { x with guardRem := 2000 }) := by
    rw [finishPause_withRun, finishPause_withRun]
    rfl
  exact loaded.trans (finishPause_some (s := s.withRun { x with guardRem := 2000 }) h)

/-- RESUME while a PAUSE is held: the PAUSE is dropped (R80, R81). -/
theorem resumeRun_held {s : State} (h : s.run.seq = .running) :
    resumeRun s = finishPause .cancelled (s.withRun { s.run with heldPause := false }) := by
  unfold resumeRun
  rw [h]
  rfl

/-- A step whose sync pass is not held stays where it is (R70). -/
theorem releaseSyncPass_unheld {s : State} (h : s.run.heldSyncPass = false) : releaseSyncPass s = s :=
  if_neg (Bool.eq_false_iff.mp h)

/-- The stage of a pass whose pause is cancelled: SUPPLY again where its rail is being given back (R80, R150). -/
def cancelledStage (givingUp : Bool) (stage : Stage) : Stage :=
  if givingUp then (if stage = .supply then .reenter true else if stage = .visits then .reenter false else stage) else stage

theorem cancelPausing_eq (s : State) : cancelPausing s = s.withRun { s.run with
    seq := .running, resume := none, stage := cancelledStage s.rail.givingUp s.run.stage } := by
  refine congrArg (fun stage => s.withRun { s.run with seq := .running, resume := none, stage := stage }) ?_
  unfold cancelledStage
  cases s.rail.givingUp with
  | false => rfl
  | true => cases s.run.stage <;> rfl

/-- RESUME while the pause settles: the pause is cancelled (R80). -/
theorem resumeRun_pausing {s : State} (h : s.run.seq = .pausing) (unheld : s.run.heldSyncPass = false) :
    resumeRun s = finishPause .cancelled (s.withRun { s.run with
      seq := .running, resume := none, stage := cancelledStage s.rail.givingUp s.run.stage }) := by
  unfold resumeRun
  rw [h]
  show finishPause .cancelled (releaseSyncPass (cancelPausing s)) = _
  rw [cancelPausing_eq, releaseSyncPass_unheld (s := s.withRun { s.run with
    seq := .running, resume := none, stage := cancelledStage s.rail.givingUp s.run.stage }) unheld]

/-- RESUME of a PAUSED run: it is RUNNING where it stood, or exits a step that has passed meanwhile (R70, R80). -/
theorem resumeRun_paused {s : State} (h : s.run.seq = .paused) :
    (s.run.heldSyncPass = false → resumeRun s = s.withRun { s.run with seq := .running, resume := none })
    ∧ (s.run.heldSyncPass = true → s.run.stage = .sync → resumeRun s = s.withRun { s.run with
      seq := .running, resume := none, heldSyncPass := false, phase := .exit, stage := .exit }) := by
  have leaves : resumeRun s = releaseSyncPass (s.withRun { s.run with seq := .running, resume := none }) := by
    unfold resumeRun
    rw [h]
    rfl
  refine ⟨fun unheld => leaves.trans (releaseSyncPass_unheld unheld), fun held hs => leaves.trans ?_⟩
  exact (if_pos held).trans (if_pos hs)

/-- A DWELL that goes on has nothing due (R69, R80). -/
theorem settle_resumed_dwell {b : Block} {s : State} (running : s.run.seq = .running) (notEnding : s.run.ending = none)
    (quiet : HciQuiet s) (noUnit : s.run.inflight = none) (hs : s.run.stage = .dwell) : settle (respond b .ok s) = respond b .ok s := by
  have run := respond_run b .ok s
  have free : FreeRun (respond b .ok s) :=
    FreeRun.of_eq ⟨running, notEnding, quiet, noUnit⟩ (congrArg Run.seq run) (congrArg Run.ending run) (congrArg Run.inflight run)
      (respond_hci b .ok s)
  exact free.settled (runningDue_waiting (.inr (.inl ((congrArg Run.stage run).trans hs))))

/-- Settles O20: the effect of RESUME on a run RUNNING, PAUSING and PAUSED, and then what is due. -/
theorem resumeTaken : Obligations.ResumeTaken := by
  intro b s s0 h notEnding
  refine ⟨fun p running held outstanding => ?_, fun p pausing settled unheld outstanding => ?_,
    fun p pausing givingUp unheld outstanding => ?_, fun paused unheld => ?_, fun paused quiet noUnit hs unheld => ?_,
    fun paused hs held => ?_⟩
  · rw [exec_resume_accepted h notEnding (.inl ⟨running, held⟩), resumeRun_held running, loadGuard_cancelled _ outstanding]
  · rw [exec_resume_accepted h notEnding (.inr (.inl pausing)), resumeRun_pausing pausing unheld, loadGuard_cancelled _ outstanding,
      settled]
    rfl
  · rw [exec_resume_accepted h notEnding (.inr (.inl pausing)), resumeRun_pausing pausing unheld, loadGuard_cancelled _ outstanding,
      givingUp]
    rfl
  all_goals rw [exec_resume_accepted h notEnding (.inr (.inr paused))]
  · rw [(resumeRun_paused paused).1 unheld]
    rfl
  · rw [(resumeRun_paused paused).1 unheld]
    exact congrArg _ (settle_resumed_dwell (s := s0.withRun { s0.run with seq := .running, resume := none, guardRem := 2000 }) rfl notEnding
      quiet noUnit hs)
  · rw [(resumeRun_paused paused).2 held hs]
    rfl

end Sys2Proof.Machine
end

section
/-! The ordinary teardown of a run that is ending (R73, R74, R149, R154, R164). -/

namespace Sys2Proof.Machine

/-! ## An ending run at rest at the head -/

/-- A run ending with a cause, the HCI quiet and no unit in flight: its next action is the teardown's. -/
structure EndingRun (cause : EndCause) (s : State) : Prop where
  inRun : s.run.seq ≠ .idle
  ending : s.run.ending = some cause
  quiet : HciQuiet s
  noUnit : s.run.inflight = none

theorem EndingRun.of_eq {c : EndCause} {s t : State} (h : EndingRun c s) (seq : t.run.seq = s.run.seq)
    (ending : t.run.ending = s.run.ending) (inflight : t.run.inflight = s.run.inflight) (hci : t.hci = s.hci) : EndingRun c t where
  inRun := by rw [seq]; exact h.inRun
  ending := ending.trans h.ending
  quiet := by unfold HciQuiet; rw [hci]; exact h.quiet
  noUnit := inflight.trans h.noUnit

theorem sequencerDue_ending {c : EndCause} {s : State} (h : s.run.seq ≠ .idle) (he : s.run.ending = some c) :
    sequencerDue s = teardownDue c s := by
  unfold sequencerDue
  rw [he]
  cases hs : s.run.seq with
  | idle => exact absurd hs h
  | running | pausing | paused => rfl

theorem EndingRun.next {c : EndCause} {s : State} (h : EndingRun c s) : nextAction s = teardownDue c s := by
  obtain ⟨-, held, drop⟩ := h.quiet
  unfold nextAction
  rw [hciDue_empty held drop, unitDue_none h.noUnit, sequencerDue_ending h.inRun h.ending]

/-- A quiet HCI has no ABANDON under way. -/
theorem abandonBusy_quiet {s : State} (h : HciQuiet s) : abandonBusy s.hci = false := by
  obtain ⟨out, held, -⟩ := h
  simp [abandonBusy, Hci.awaiting, out, held]

/-! ## The group left -/

theorem leaveGroup_none {s : State} (h : s.sync.ownGroup = none) : leaveGroup s = s := by
  unfold leaveGroup
  rw [h]

theorem leaveGroup_member {s : State} {g : Group} (h : s.sync.ownGroup = some g) :
    leaveGroup s = handFrame (.leave g) (removeFrame .mark (s.withSync { s.sync with ownGroup := none })) := by
  unfold leaveGroup
  rw [h]
  rfl

/-- Leaving the group touches the link and the Sync Unit alone. -/
theorem leaveGroup_eq (s : State) : leaveGroup s = (s.withLink (leaveGroup s).link).withSync { s.sync with ownGroup := none } := by
  cases h : s.sync.ownGroup with
  | none =>
    rw [leaveGroup_none h, ← h]
    rfl
  | some g =>
    rw [leaveGroup_member h, handFrame_link]
    rfl

/-- A member on a link that sends hands over its LEAVE in place of its MARK (R164). -/
theorem leaveGroup_out {s : State} {g : Group} (h : s.sync.ownGroup = some g) (sends : linkSends s = true) :
    (leaveGroup s).link.out = { s.link.out with mark := none, leave := some g } := by
  rw [leaveGroup_member h]
  exact handFrame_out (s := removeFrame .mark (s.withSync { s.sync with ownGroup := none })) sends

/-- Leaving the group takes no rail frame out of the outgoing set, and puts none in. -/
theorem leaveGroup_rail_frames (s : State) : (leaveGroup s).link.out.release = s.link.out.release
    ∧ (leaveGroup s).link.out.withdraw = s.link.out.withdraw ∧ (leaveGroup s).link.out.claim = s.link.out.claim
    ∧ (leaveGroup s).link.out.wait = s.link.out.wait := by
  cases h : s.sync.ownGroup with
  | none =>
    rw [leaveGroup_none h]
    exact ⟨rfl, rfl, rfl, rfl⟩
  | some g =>
    cases sends : linkSends s with
    | true =>
      rw [leaveGroup_out h sends]
      exact ⟨rfl, rfl, rfl, rfl⟩
    | false =>
      rw [leaveGroup_member h, handFrame_discarded (s := removeFrame .mark (s.withSync { s.sync with ownGroup := none })) _ sends]
      exact ⟨rfl, rfl, rfl, rfl⟩

/-! ## The give-up of a teardown -/

/-- A give-up touches the link and the Rail Share Unit alone. -/
theorem giveUp_same (s : State) : giveUp s = (s.withLink (giveUp s).link).withRail (giveUp s).rail := by
  rw [giveUp_steps, giveBack_link]
  split
  · rfl
  · split <;> rfl

/-- The station of a run in its teardown gives up while it has a rail state (R149). -/
theorem giveUp_held {s : State} (sends : linkSends s = true) (h : s.rail.st ≠ .none) : (giveUp s).rail = givingUpRail s.rail := by
  rw [giveUp_waits sends (.inl h), giveBack_link]
  rfl

theorem linkSends_giveUp (s : State) : linkSends (giveUp s) = linkSends s := by
  have st := (leaves_giveUp s).linkSt
  unfold linkSends
  rw [st]

/-! ## Steps 2 and 3 -/

/-- The run in the second part of its teardown. -/
def tearingDown (s : State) : State := s.withRun { s.run with teardown := .frames }

/-- Steps 2 and 3 of the teardown: what is held or awaited is given back, and the group left (R73). -/
def tornDown (s : State) : State := leaveGroup (giveUp (tearingDown s))

theorem tornDown_eq (s : State) : tornDown s =
    (((tearingDown s).withLink (tornDown s).link).withRail (giveUp (tearingDown s)).rail).withSync { s.sync with ownGroup := none } := by
  unfold tornDown
  rw [leaveGroup_eq, giveUp_same]
  rfl

/-- Once its ABANDON is done with, a run that does not end LINK MUTE hands its frames over (R73, R74). -/
theorem EndingRun.next_frames {c : EndCause} {s : State} (h : EndingRun c s) (hc : c ≠ .linkMute) (ht : s.run.teardown = .abandon) :
    nextAction s = some (tornDown s) := by
  rw [h.next]
  unfold teardownDue
  rw [ht, abandonBusy_quiet h.quiet]
  exact (if_neg Bool.false_ne_true).trans (if_neg hc)

/-- The frames of a teardown handed over leave the run ending. -/
theorem EndingRun.handedOver {c : EndCause} {s : State} (h : EndingRun c s) : EndingRun c (tornDown s) := by
  have same := tornDown_eq s
  exact h.of_eq (by rw [same]; rfl) (by rw [same]; rfl) (by rw [same]; rfl) (by rw [same]; rfl)

theorem tornDown_teardown (s : State) : (tornDown s).run.teardown = .frames := by
  rw [tornDown_eq]
  rfl

/-- The teardown waits while its give-up is under way or its LEAVE pending (R73). -/
theorem teardownDue_waits {c : EndCause} {s : State} (ht : s.run.teardown = .frames)
    (waits : s.rail.givingUp = true ∨ framePending s.link .leave = true) : teardownDue c s = none := by
  unfold teardownDue
  rw [ht]
  exact if_pos waits

/-- With its frames carried and the rail settled, or on a link that discards what it is handed, the run ends (R73, R154). -/
theorem teardownDue_ends {c : EndCause} {s : State} (ht : s.run.teardown = .frames) (hg : s.rail.givingUp = false)
    (hl : framePending s.link .leave = false)
    (settled : linkSends s = false ∨ (s.rail.st = .none ∧ framePending s.link .claim = false ∧ framePending s.link .wait = false)) :
    teardownDue c s = some (finishRunEnd c s) := by
  unfold teardownDue
  rw [ht]
  refine (if_neg (by rw [hg, hl]; simp)).trans (if_neg ?_)
  rintro ⟨sends, unsettled⟩
  rcases settled with mute | settled
  · exact Bool.false_ne_true (mute.symm.trans sends)
  · exact unsettled settled

/-- The end of a run leaves nothing due (R75). -/
theorem finishRunEnd_rest (c : EndCause) {s : State} (h : HciQuiet s) : nextAction (finishRunEnd c s) = none := by
  obtain ⟨-, held, drop⟩ := h
  rw [finishRunEnd_eq]
  exact nextAction_none (hciDue_empty (s := (closeRun c s).withCwc (finishRunEnd c s).cwc) held drop) (unitDue_none rfl)
    (sequencerDue_idle rfl)

/-- What the end of a run leaves: no run, a result with its cause, the rail as it was, and the Sync Unit cleared (R75, R76). -/
theorem finishRunEnd_ended (c : EndCause) (s : State) : (finishRunEnd c s).run.seq = .idle
    ∧ (∃ r, (finishRunEnd c s).run.result = some r ∧ r.cause = c) ∧ (finishRunEnd c s).rail = s.rail
    ∧ (finishRunEnd c s).sync = SyncUnit.reset := by
  refine ⟨?_, ⟨_, finishRunEnd_result c s, rfl⟩, ?_, ?_⟩ <;> rw [finishRunEnd_eq] <;> rfl

/-- A teardown whose frames wait is at rest. -/
theorem EndingRun.settle_waits {c : EndCause} {s : State} (h : EndingRun c s) (hc : c ≠ .linkMute) (ht : s.run.teardown = .abandon)
    (waits : (tornDown s).rail.givingUp = true ∨ framePending (tornDown s).link .leave = true) :
    settle s = tornDown s :=
  settle_once (h.next_frames hc ht) (h.handedOver.next.trans (teardownDue_waits (tornDown_teardown s) waits))

/-- A teardown with nothing left to wait for ends the run at once. -/
theorem EndingRun.settle_ends {c : EndCause} {s : State} (h : EndingRun c s) (hc : c ≠ .linkMute) (ht : s.run.teardown = .abandon)
    (hg : (tornDown s).rail.givingUp = false) (hl : framePending (tornDown s).link .leave = false)
    (settled : linkSends (tornDown s) = false ∨ ((tornDown s).rail.st = .none ∧ framePending (tornDown s).link .claim = false
      ∧ framePending (tornDown s).link .wait = false)) : settle s = finishRunEnd c (tornDown s) :=
  settle_twice (h.next_frames hc ht) (h.handedOver.next.trans (teardownDue_ends (tornDown_teardown s) hg hl settled))
    (finishRunEnd_rest c h.handedOver.quiet)

/-! ## What is handed over -/

/-- A station with a rail state gives it up and leaves its group, and waits for what it gave back (R73, R149). -/
theorem EndingRun.settle_held {c : EndCause} {s : State} (h : EndingRun c s) (hc : c ≠ .linkMute) (ht : s.run.teardown = .abandon)
    (sends : linkSends s = true) (hr : s.rail.st ≠ .none) : settle s = tornDown s ∧ (tornDown s).rail = givingUpRail s.rail := by
  have rail : (tornDown s).rail = givingUpRail s.rail := by
    rw [tornDown_eq]
    exact giveUp_held (s := tearingDown s) sends hr
  exact ⟨h.settle_waits hc ht (.inl (congrArg Rail.givingUp rail)), rail⟩

/-- A member hands over its LEAVE in place of its MARK, and has no group any more (R164). -/
theorem tornDown_left {s : State} {g : Group} (sends : linkSends s = true) (hg : s.sync.ownGroup = some g) :
    (tornDown s).link.out.leave = some g ∧ (tornDown s).link.out.mark = none
    ∧ (tornDown s).sync = { s.sync with ownGroup := none } := by
  have member : (giveUp (tearingDown s)).sync.ownGroup = some g := by rw [giveUp_same]; exact hg
  have out : (tornDown s).link.out = _ := leaveGroup_out member ((linkSends_giveUp (tearingDown s)).trans sends)
  rw [out, tornDown_eq]
  exact ⟨rfl, rfl, rfl⟩

/-- A RELEASE or WITHDRAW handed over stands in the outgoing set beside the LEAVE (log 11). -/
theorem tornDown_rail_frames (s : State) : (tornDown s).link.out.release = (giveUp (tearingDown s)).link.out.release
    ∧ (tornDown s).link.out.withdraw = (giveUp (tearingDown s)).link.out.withdraw
    ∧ (tornDown s).link.out.claim = none ∧ (tornDown s).link.out.wait = none := by
  obtain ⟨release, withdraw, claim, wait⟩ := leaveGroup_rail_frames (giveUp (tearingDown s))
  obtain ⟨-, unclaimed, unwaited⟩ := giveUp_seeks_nothing (tearingDown s)
  exact ⟨release, withdraw, claim.trans unclaimed, wait.trans unwaited⟩

/-- A kind that neither stands in the outgoing set nor is on the line is not pending. -/
theorem framePending_lineFree {l : Link} {k : FrameKind} (line : l.attempt = none) (out : l.out.has k = false) :
    framePending l k = false := by
  unfold framePending onLine
  rw [line, out]
  rfl

/-- A station in NONE with nothing of its own pending gives nothing back (R149). -/
theorem tornDown_settled {s : State} (hr : s.rail.st = .none) (line : s.link.attempt = none) (release : s.link.out.release = none)
    (withdraw : s.link.out.withdraw = false) :
    tornDown s = leaveGroup ((giveUpBegun (tearingDown s)).withRail (gaveUpRail s.rail)) := by
  unfold tornDown
  rw [giveUp_settled (s := tearingDown s) hr (noRailFrame_lineFree line release withdraw)]
  rfl

/-- On a link that discards what it is handed, a teardown leaves the link as it was, with nothing pending (R154). -/
theorem tornDown_silent {s : State} (mute : linkSends s = false) (empty : s.link.out = Outgoing.empty) : (tornDown s).link = s.link := by
  obtain ⟨-, link⟩ := giveUp_discards (s := tearingDown s) mute
  have begun : (giveUpBegun (tearingDown s)).link = s.link := by
    show { s.link with out := claimless s.link.out } = s.link
    rw [show claimless s.link.out = s.link.out by rw [empty]; rfl]
  have same : (giveUp (tearingDown s)).link = s.link := link.trans begun
  have unmarked : ({ s.link with out := s.link.out.remove .mark } : Link) = s.link := by
    rw [show s.link.out.remove .mark = s.link.out by rw [empty]; rfl]
  unfold tornDown
  cases hg : (giveUp (tearingDown s)).sync.ownGroup with
  | none => rw [leaveGroup_none hg, same]
  | some g =>
    have muted : linkSends (removeFrame .mark ((giveUp (tearingDown s)).withSync
        { (giveUp (tearingDown s)).sync with ownGroup := none })) = false := (linkSends_giveUp (tearingDown s)).trans mute
    rw [leaveGroup_member hg, handFrame_discarded _ muted]
    show { (giveUp (tearingDown s)).link with out := (giveUp (tearingDown s)).link.out.remove .mark } = s.link
    rw [same, unmarked]

/-- Settles O24: the frames are handed over, and the run ends once nothing of them is awaited. -/
theorem teardownCarriedOut : Obligations.TeardownCarriedOut := by
  intro c s inRun ending quiet noUnit
  have h : EndingRun c s := ⟨inRun, ending, quiet, noUnit⟩
  refine ⟨fun hc ht sends => ⟨fun hr hp => ?_, fun hr hp => ?_, fun hr g hg => ?_, fun hr line release withdraw => ⟨fun g hg => ?_,
    fun hg hl => ?_⟩⟩, fun ht => ⟨fun waits => ?_, fun hg hl settled => ?_⟩, fun hc ht => ?_, fun hc ht mute silent => ?_⟩
  · obtain ⟨settled, rail⟩ := h.settle_held hc ht sends (by rw [hr]; nofun)
    obtain ⟨release, -, claim, wait⟩ := tornDown_rail_frames s
    rw [settled]
    refine ⟨by rw [tornDown_eq]; rfl, rail, release.trans ?_, claim, wait⟩
    rw [giveUp_holding (s := tearingDown s) sends hr hp, handFrame_out (s := giveUpBegun (tearingDown s)) sends]
    rfl
  · obtain ⟨settled, rail⟩ := h.settle_held hc ht sends (by rw [hr]; nofun)
    obtain ⟨-, withdraw, claim, wait⟩ := tornDown_rail_frames s
    rw [settled]
    refine ⟨by rw [tornDown_eq]; rfl, rail, withdraw.trans ?_, claim, wait⟩
    rw [giveUp_waiting (s := tearingDown s) sends hr hp, handFrame_out (s := giveUpBegun (tearingDown s)) sends]
    rfl
  · obtain ⟨settled, -⟩ := h.settle_held hc ht sends hr
    rw [settled]
    exact tornDown_left sends hg
  · obtain ⟨leave, -, sync⟩ := tornDown_left sends hg
    have pending : framePending (tornDown s).link .leave = true := by
      unfold framePending Outgoing.has
      rw [leave]
      rfl
    rw [h.settle_waits hc ht (.inr pending)]
    exact ⟨by rw [tornDown_eq]; rfl, leave, sync⟩
  · have gave := tornDown_settled hr line release withdraw
    rw [leaveGroup_none (s := (giveUpBegun (tearingDown s)).withRail (gaveUpRail s.rail)) hg] at gave
    have ended := h.settle_ends hc ht (by rw [gave]; rfl)
      (by rw [gave]; exact framePending_lineFree line (congrArg Option.isSome hl))
      (.inr ⟨by rw [gave]; exact hr, by rw [gave]; exact framePending_lineFree line rfl, by rw [gave]; exact framePending_lineFree line rfl⟩)
    obtain ⟨idle, result, -⟩ := finishRunEnd_ended c (tornDown s)
    rw [ended]
    exact ⟨idle, result⟩
  · exact settle_rest (h.next.trans (teardownDue_waits ht waits))
  · exact settle_once (h.next.trans (teardownDue_ends ht hg hl settled)) (finishRunEnd_rest c quiet)
  · refine settle_once (h.next.trans ?_) (finishRunEnd_rest c quiet)
    unfold teardownDue
    rw [ht, abandonBusy_quiet quiet]
    exact (if_neg Bool.false_ne_true).trans (if_pos hc)
  · obtain ⟨out, line⟩ := silent.1 mute
    have link := tornDown_silent mute out
    have gave : (tornDown s).rail.givingUp = false := by
      rw [tornDown_eq]
      exact (giveUp_discards (s := tearingDown s) mute).1
    have ended := h.settle_ends hc ht gave (by rw [link]; exact framePending_lineFree line (by rw [out]; rfl))
      (.inl (by unfold linkSends; rw [link]; exact mute))
    obtain ⟨idle, result, rail, sync⟩ := finishRunEnd_ended c (tornDown s)
    rw [ended]
    exact ⟨idle, result, by rw [rail]; exact gave, sync⟩

end Sys2Proof.Machine
end

section
/-! The ends of the running times: dwell, sync timeout, supply wait, resume guard and roll window (R66, R69, R70, R81, R126, R163). -/

namespace Sys2Proof.Machine

/-! ## DWELL -/

/-- A dwell that ends while RUNNING exits the step (R69). -/
theorem exec_dwellExpiry {s : State} (running : s.run.seq = .running) (notEnding : s.run.ending = none) (hs : s.run.stage = .dwell) :
    exec .dwellExpiry s = .next (settle ((elapse s.run.dwellRem s).withRun { (elapse s.run.dwellRem s).run with
      dwellRem := 0, phase := .exit, stage := .exit })) := by
  refine congrArg Host.Outcome.next (if_pos ?_)
  simp [runningAt, running, notEnding, hs]

/-! ## SYNC -/

/-- The card when the sync time has run out (R70). -/
def syncElapsed (r : Nat) (s : State) : State := (elapse r s).withRun { (elapse r s).run with syncRem := some 0 }

/-- A sync timeout while RUNNING: the laggards are recorded, and the step decided (R70, R163). -/
theorem exec_syncTimeout {s : State} {r : Nat} (running : s.run.seq = .running) (hs : s.run.stage = .sync)
    (hr : s.run.syncRem = some r) : exec .syncTimeout s = .next (settle (decideSync (syncTimedOut (syncElapsed r s)))) := by
  refine congrArg Host.Outcome.next ?_
  show passSyncTimeout s = _
  unfold passSyncTimeout
  rw [hr]
  refine if_pos ?_
  simp [countingAt, running, hs]

/-- The station waits at a SYNC step for its own group, or for the run's once it has left its own (R161, log 35). -/
theorem waitGroup_eq {s : State} {g : Group} (h : s.sync.ownGroup = some g ∨ (s.sync.ownGroup = none ∧ s.run.group = some g)) :
    waitGroup s = some g := by
  rcases h with member | ⟨left, group⟩
  · exact waitGroup_of_member member
  · exact (waitGroup_of_left left).trans group

/-- The Sync Unit after its timeout: the laggards recorded, and nothing awaited any more (R163). -/
theorem syncTimedOut_eq {s : State} {m : Nat} {g : Group} (ha : s.sync.awaited = some m) (hg : waitGroup s = some g) :
    syncTimedOut s = s.withSync { s.sync with laggards := laggardMask s g m, awaited := none } := by
  unfold syncTimedOut
  rw [ha, hg]
  rfl

/-- The laggard mask names the laggards (R163). -/
theorem laggards_laggardMask (s : State) (g : Group) (m : Nat) : Laggards s g m (laggardMask s g m) := by
  intro x
  rw [laggardMask_get, Bool.or_eq_true, Bool.and_eq_true, Bool.and_eq_true, Bool.not_eq_true', Bool.not_eq_true', beq_iff_eq, beq_iff_eq,
    Bool.eq_false_iff, Ne, atMark_iff, not_and]
  exact or_congr (and_congr_right fun member => ⟨fun h => h member, fun h _ => h⟩) Iff.rfl

/-- The card when a SYNC step has timed out, before the step is decided (R163). -/
def syncOver (r m : Nat) (g : Group) (s : State) : State :=
  (syncElapsed r s).withSync { s.sync with laggards := laggardMask s g m, awaited := none }

theorem syncTimedOut_elapsed {s : State} {m : Nat} {g : Group} (r : Nat) (ha : s.sync.awaited = some m) (hg : waitGroup s = some g) :
    syncTimedOut (syncElapsed r s) = syncOver r m g s := syncTimedOut_eq (s := syncElapsed r s) ha hg

/-- A SYNC step timed out under PROCEED exits (R163). -/
theorem decideSync_proceed {s : State} {time : Nat} (notEnding : s.run.ending = none) (hrec : s.run.record = some (.sync time .proceed)) :
    decideSync s = s.withRun { s.run with phase := .exit, stage := .exit } := by
  unfold decideSync timeoutAction
  rw [notEnding, hrec]
  rfl

/-- A SYNC step timed out under END-RUN ends the run (R163). -/
theorem decideSync_endRun {s : State} {time : Nat} (notEnding : s.run.ending = none) (hrec : s.run.record = some (.sync time .endRun)) :
    decideSync s = endRun .syncTimeout s := by
  unfold decideSync timeoutAction
  rw [notEnding, hrec]
  rfl

/-- In a run that is ending no step is decided any more (R72, log 15). -/
theorem decideSync_ending {s : State} (ending : s.run.ending ≠ none) : decideSync s = s := if_pos (isSome_true ending)

/-! ## An end cause taken at an expiry -/

/-- The passing of time leaves a quiet HCI quiet. -/
theorem elapse_quiet (n : Nat) {s : State} (h : HciQuiet s) : HciQuiet (elapse n s) := by
  obtain ⟨out, held, drop⟩ := h
  refine ⟨?_, held, drop⟩
  show s.hci.outstanding.map _ = none
  rw [out]
  rfl

/-- An end cause taken with a quiet HCI leaves the mainframe side (R72). -/
theorem endRun_quiet_mainframe {s : State} {cause : EndCause} (hq : HciQuiet s) (hr : s.run.seq ≠ .idle) (he : s.run.ending = none)
    (hc : cause ≠ .complete) (hn : cause ≠ .noSites) :
    (endRun cause s).link = s.link ∧ (endRun cause s).rail = s.rail ∧ (endRun cause s).sync = s.sync := by
  rw [endRun_quiet_eq hq hr he hc hn]
  exact ⟨rfl, rfl, rfl⟩

/-! ## SUPPLY -/

/-- The card when the supply wait has run out (R66). -/
def supplyElapsed (r : Nat) (s : State) : State := (elapse r s).withRun { (elapse r s).run with supplyRem := some 0 }

/-- A supply wait that ends while the pass still waits is given up, and ends the run (R66). -/
theorem exec_supplyWaitExpiry {s : State} {r : Nat} (running : s.run.seq = .running) (hs : s.run.stage = .supply)
    (hr : s.run.supplyRem = some r) (waits : s.run.ending = none ∨ s.rail.seeking = true) :
    exec .supplyWaitExpiry s = .next (settle (endRun .supplyWaitTimeout (giveUp (supplyElapsed r s)))) := by
  refine congrArg Host.Outcome.next ?_
  show passSupplyWait s = _
  unfold passSupplyWait
  rw [hr]
  refine if_pos ?_
  rcases waits with waits | waits <;> simp [supplyWaits, countingAt, running, hs, waits]

/-- A WAITING station that gives up has a WITHDRAW pending, its own or one handed over before (R149). -/
theorem giveUp_withdraws {s : State} (sends : linkSends s = true) (hr : s.rail.st = .waiting) :
    framePending (giveUp s).link .withdraw = true := by
  cases hp : framePending s.link .withdraw with
  | false =>
    rw [giveUp_waiting sends hr hp]
    unfold framePending
    rw [handFrame_out (s := giveUpBegun s) sends]
    rfl
  | true =>
    have kept : giveBack (giveUpBegun s) = giveUpBegun s := by
      unfold giveBack
      rw [show (giveUpBegun s).rail.st = .waiting from hr]
      exact if_pos hp
    rw [giveUp_waits sends (.inl (by rw [hr]; nofun)), kept]
    exact hp

/-! ## The resume guard -/

/-- The card when the resume guard has run out (R81). -/
def guardElapsed (s : State) : State :=
  (elapse s.run.guardRem s).withRun { (elapse s.run.guardRem s).run with guardRem := 0 }

/-- The guard stops, and with no PAUSE held nothing else happens (R81). -/
theorem exec_resumeGuardExpiry_unheld {s : State} (guard : s.run.guardRem ≠ 0) (unheld : s.run.heldPause = false) :
    exec .resumeGuardExpiry s = .next (guardElapsed s) := by
  refine congrArg Host.Outcome.next ((if_neg fun stopped => guard stopped.1).trans (if_neg fun due => ?_))
  exact Bool.false_ne_true (unheld.symm.trans due.1)

/-- A PAUSE held until the guard stops takes effect in a RUNNING run (R81). -/
theorem exec_resumeGuardExpiry_held {s : State} (held : s.run.heldPause = true) (running : s.run.seq = .running)
    (notEnding : s.run.ending = none) : exec .resumeGuardExpiry s = .next (settle (pauseTakesEffect (guardElapsed s))) := by
  refine congrArg Host.Outcome.next ((if_neg fun stopped => ?_).trans (if_pos ⟨held, running, notEnding⟩))
  exact Bool.false_ne_true (stopped.2.symm.trans held)

/-! ## The roll window -/

/-- The card when the roll window has closed: a ROLLING link is UP (R126). -/
def rollElapsed (r : Nat) (s : State) : State :=
  (elapse r s).withLink { (elapse r s).link with rollWindow := none, st := if s.link.st = .rolling then .up else s.link.st }

theorem exec_rollWindowExpiry {s : State} {r : Nat} (hr : s.link.rollWindow = some r) :
    exec .rollWindowExpiry s = .next (settle (rollElapsed r s)) := by
  refine congrArg Host.Outcome.next ?_
  show passRollWindow s = _
  unfold passRollWindow
  rw [hr]
  rfl

/-- Settles O37: each clock that counts is taken at its end, and the run goes on, ends or is PAUSED as its rule has it. -/
theorem runningTimesEnd : Obligations.RunningTimesEnd := by
  refine ⟨fun s running notEnding hs => ⟨_, exec_dwellExpiry running notEnding hs, rfl, rfl, rfl, rfl⟩,
    fun time r m g s running hs hr ha hg => ?sync, fun r s running hs hr => ?supply, fun s guard unheld => ?guard,
    fun p s held running notEnding hs quiet noUnit outstanding => ?held, fun r s hr rolling => ?roll⟩
  case sync =>
    rw [exec_syncTimeout running hs hr, syncTimedOut_elapsed r ha (waitGroup_eq hg)]
    refine ⟨fun notEnding hrec => ?_, fun notEnding hrec quiet => ?_, fun ending => ?_⟩
    · rw [decideSync_proceed (s := syncOver r m g s) notEnding hrec]
      exact ⟨_, rfl, rfl, rfl, rfl, rfl, rfl, rfl, laggards_laggardMask s g m⟩
    · rw [decideSync_endRun (s := syncOver r m g s) notEnding hrec]
      have elapsed : HciQuiet (syncOver r m g s) := elapse_quiet r quiet
      have inRun : (syncOver r m g s).run.seq ≠ .idle := by
        show s.run.seq ≠ .idle
        rw [running]
        nofun
      obtain ⟨run, sent, rest⟩ := endRun_quiet (cause := .syncTimeout) elapsed inRun notEnding nofun nofun
      obtain ⟨-, -, sync⟩ := endRun_quiet_mainframe (cause := .syncTimeout) elapsed inRun notEnding nofun nofun
      rw [rest]
      refine ⟨_, rfl, by rw [run], sent, by rw [sync]; rfl, ?_⟩
      rw [sync]
      exact laggards_laggardMask s g m
    · rw [decideSync_ending (s := syncOver r m g s) ending]
      exact ⟨_, rfl, rfl, rfl, rfl, laggards_laggardMask s g m⟩
  case supply =>
    have same := giveUp_same (supplyElapsed r s)
    obtain ⟨unsought, unclaimed, unwaited⟩ := giveUp_seeks_nothing (supplyElapsed r s)
    refine ⟨fun notEnding quiet => ?_, fun c ending seeking => ?_⟩
    · rw [exec_supplyWaitExpiry running hs hr (.inl notEnding)]
      have elapsed : HciQuiet (giveUp (supplyElapsed r s)) := by rw [same]; exact elapse_quiet r quiet
      have inRun : (giveUp (supplyElapsed r s)).run.seq ≠ .idle := by
        rw [same]
        show s.run.seq ≠ .idle
        rw [running]
        nofun
      have goesOn : (giveUp (supplyElapsed r s)).run.ending = none := by rw [same]; exact notEnding
      obtain ⟨run, sent, rest⟩ := endRun_quiet (cause := .supplyWaitTimeout) elapsed inRun goesOn nofun nofun
      obtain ⟨link, rail, -⟩ := endRun_quiet_mainframe (cause := .supplyWaitTimeout) elapsed inRun goesOn nofun nofun
      rw [rest]
      refine ⟨_, rfl, by rw [run], sent, by rw [rail]; exact unsought, by rw [link]; exact unclaimed, by rw [link]; exact unwaited,
        fun waiting sends => ?_⟩
      rw [link]
      exact (Bool.or_eq_true _ _).mp (giveUp_withdraws (s := supplyElapsed r s) sends waiting)
    · rw [exec_supplyWaitExpiry running hs hr (.inr seeking)]
      have ends : (giveUp (supplyElapsed r s)).run.ending = some c := by rw [same]; exact ending
      rw [endRun_ending _ ends]
      exact ⟨_, rfl, ends, unsought, unclaimed, unwaited⟩
  case guard => exact ⟨_, exec_resumeGuardExpiry_unheld guard unheld, rfl, rfl, rfl, rfl⟩
  case held =>
    have alone : (guardElapsed s).cwc = { { s.cwc with outPause := none } with outPause := some p } := by rw [← outstanding]; rfl
    rw [exec_resumeGuardExpiry_held held running notEnding,
      (settle_pause_waiting (s := guardElapsed s) notEnding (elapse_quiet _ quiet) noUnit).1 hs,
      pausedAt_completes (s := pausingFrom (guardElapsed s)) (c := { s.cwc with outPause := none }) _ _ rfl alone]
    exact ⟨_, rfl, rfl, rfl, rfl, rfl, rfl⟩
  case roll =>
    have left := leaves_settle (rollElapsed r s)
    refine ⟨_, exec_rollWindowExpiry hr, left.linkSt.trans (if_pos rolling), left.rollWindow, left.own, left.effBudget, left.peers⟩

end Sys2Proof.Machine
end

section
/-! A site's busy flag and its timer's running flag change together: each part of an event keeps them together, and so every step does
(R84). -/

namespace Sys2Proof.Machine

/-! ## Changes that keep the flags together -/

/-- A change after which the flags are together if they were so before. -/
def FlagsKept (s t : State) : Prop := FlagsTogether s → FlagsTogether t

theorem FlagsKept.refl (s : State) : FlagsKept s s := id

theorem FlagsKept.trans {s t u : State} (h : FlagsKept s t) (h' : FlagsKept t u) : FlagsKept s u := h' ∘ h

theorem Leaves.flagsKept {s t : State} (h : Leaves s t) : FlagsKept s t := h.flags

theorem FlagsKept.settled {s t : State} (h : FlagsKept s t) : FlagsKept s (settle t) := h.trans (leaves_settle t).flagsKept

theorem flagsKept_ite {c : Prop} [Decidable c] {s t u : State} (ht : FlagsKept s t) (hu : FlagsKept s u) :
    FlagsKept s (if c then t else u) := by
  split
  · exact ht
  · exact hu

theorem flagsKept_foldl {f : State → Site → State} (hf : ∀ s i, FlagsKept s (f s i)) (l : List Site) (s : State) :
    FlagsKept s (l.foldl f s) := by
  induction l generalizing s with
  | nil => exact .refl s
  | cons i l ih => exact (hf s i).trans (ih _)

/-- A change of the site records that leaves every busy flag, with every running flag left. -/
theorem flagsKept_of_busy {s t : State} (hb : ∀ i : Site, t.sites[i].busy = s.sites[i].busy)
    (hr : t.timers.running = s.timers.running := by rfl) : FlagsKept s t := fun h i => by
  rw [hb i, hr]
  exact h i

/-- A change of other fields than the site records and the running flags. -/
theorem flagsKept_of_eq {s t : State} (hs : t.sites = s.sites := by rfl) (hr : t.timers.running = s.timers.running := by rfl) :
    FlagsKept s t := flagsKept_of_busy (fun i => by rw [hs]) hr

theorem OnlyCwc.flagsKept {s t : State} (h : OnlyCwc s t) : FlagsKept s t := by
  rw [h.eq]
  exact flagsKept_of_eq

theorem LinkSideOnly.flagsKept {s t : State} (h : LinkSideOnly s t) : FlagsKept s t := by
  obtain ⟨_, _, _, _, rfl⟩ := h
  exact flagsKept_of_eq

theorem Move.flagsKept {s t : State} (h : Move s t) : FlagsKept s t := by
  cases h with
  | link | run | uag | timed | hold => exact flagsKept_of_eq
  | marks f hf => exact flagsKept_of_busy fun i => by rw [mapSites_get, hf]
  | send _ h => exact (leaves_hciDue h).flagsKept
  | finishRun r => exact (leaves_finishRun r s).flagsKept
  | finishAbort r => exact (leaves_finishAbort r s).flagsKept
  | finishPause r => exact (leaves_finishPause r s).flagsKept
  | writeBytes a bs => exact (leaves_writeBytes a bs s).flagsKept
  | close cause => exact (leaves_closeRun cause s).flagsKept

/-- The card's own machinery keeps the flags together. -/
theorem Moves.flagsKept {s t : State} (h : Moves s t) : FlagsKept s t :=
  h.keeps (P := FlagsKept s) (fun _ _ m hs => hs.trans m.flagsKept) (.refl s)

/-! ## Sites and timers -/

theorem flagsKept_updSite (i : Site) {f : SiteRec → SiteRec} (hf : ∀ x, (f x).busy = x.busy) (s : State) :
    FlagsKept s (updSite i f s) := by
  refine flagsKept_of_busy fun j => ?_
  rw [updSite_get]
  split
  next h => rw [hf, h]
  · rfl

theorem flagsKept_mapSites {f : SiteRec → SiteRec} (hf : ∀ x, (f x).busy = x.busy) (s : State) : FlagsKept s (mapSites f s) :=
  flagsKept_of_busy fun i => by rw [mapSites_get, hf]

/-- A timer stops as its site's busy flag is cleared (R88). -/
theorem flagsKept_stopTimerAt (i : Site) (v : Nat) (s : State) : FlagsKept s (stopTimerAt i v s) := fun h j => by
  rw [stopTimerAt_site, stopTimerAt_running]
  split
  · rfl
  · exact h j

/-- A timer starts as its site's busy flag is set (R87). -/
theorem flagsKept_startTimer (i : Site) (s : State) : FlagsKept s (startTimer i s) := fun h j => by
  rw [startTimer_site, startTimer_running]
  split
  · rfl
  · exact h j

theorem flagsKept_elapse (n : Nat) (s : State) : FlagsKept s (elapse n s) := flagsKept_of_eq

/-! ## Served commands -/

theorem flagsKept_respond (b : Block) (r : Response) (s : State) : FlagsKept s (respond b r s) := (onlyCwc_respond b r s).flagsKept

/-- Serving keeps the flags together when the owner's work does. -/
theorem flagsKept_serve {c : Cmd} {owner : Block → State → State} {s : State} (ho : ∀ b x, FlagsKept x (owner b x)) :
    FlagsKept s (serve c owner s) := by
  have taken : ∀ {b s0}, takeBlock s = some (b, s0) → FlagsKept s s0 := fun ht => by
    rw [takeBlock_eq ht]
    exact flagsKept_of_eq
  rcases serve_cases c owner s with hs | ⟨b, s0, ht, _, ⟨r, _, hs⟩ | ⟨_, hs⟩⟩
  · rw [hs]; exact .refl s
  · rw [hs]; exact (taken ht).trans (flagsKept_respond b r s0)
  · rw [hs]; exact (taken ht).trans (ho b s0)

theorem flagsKept_guarded {b : Block} {conds : List (Bool × Response)} {act : State → State} {s : State}
    (ha : FlagsKept s (act s)) : FlagsKept s (guarded b conds act s) := by
  unfold guarded
  split
  · exact flagsKept_respond _ _ s
  · exact ha

theorem flagsKept_clearAccounts (s : State) : FlagsKept s (clearAccounts s) := by
  refine flagsKept_mapSites (fun x => ?_) s
  rfl

theorem flagsKept_startRun (b : Block) (s : State) : FlagsKept s (startRun b s) := by
  have cleared : ∀ x : State, FlagsKept x (clearForRun x) := fun x => flagsKept_of_busy fun i => by rw [clearForRun_site]; rfl
  refine FlagsKept.trans ?_ (leaves_handRequest _ _).flagsKept
  exact .trans flagsKept_of_eq (cleared _)

theorem flagsKept_restoreSites (mask : SiteMask) (s : State) : FlagsKept s (restoreSites mask s) := by
  refine flagsKept_of_busy fun i => ?_
  rw [restoreSites_site]
  split <;> rfl

theorem flagsKept_readFailLog (b : Block) (s : State) : FlagsKept s (readFailLogOwner b s) := by
  unfold readFailLogOwner
  split
  · exact flagsKept_respond _ _ s
  next i _ =>
    have read := flagsKept_updSite i (f := fun x => { x with cursor := x.cursor + unreadCount b.most s.sites[i] }) (fun _ => rfl) s
    exact flagsKept_guarded (read.trans (onlyCwc_respondWith _ _ _ _).flagsKept)

theorem flagsKept_rewindLogs (mask : SiteMask) (s : State) : FlagsKept s (rewindLogs mask s) := by
  refine flagsKept_of_busy fun i => ?_
  unfold rewindLogs
  rw [tabulate_get]
  split <;> rfl

theorem flagsKept_acceptPause (b : Block) (s : State) : FlagsKept s (acceptPause b s) := by
  have outstanding : FlagsKept s { s with cwc := { s.cwc with outPause := some b } } := flagsKept_of_eq
  exact flagsKept_ite flagsKept_of_eq (FlagsKept.settled (outstanding.trans (moves_pauseTakesEffect _).flagsKept))

theorem flagsKept_resumeOwner (b : Block) (s : State) : FlagsKept s (resumeOwner b s) := by
  have resumed : FlagsKept s (loadGuard (resumeRun s)) := (moves_resumeRun s).flagsKept.trans flagsKept_of_eq
  exact flagsKept_guarded (FlagsKept.settled (resumed.trans (flagsKept_respond _ _ _)))

theorem flagsKept_abortOwner (b : Block) (s : State) : FlagsKept s (abortOwner b s) := by
  have outstanding : FlagsKept s { s with cwc := { s.cwc with outAbort := some b } } := flagsKept_of_eq
  exact flagsKept_guarded (FlagsKept.settled (outstanding.trans (leaves_endRun _ _).flagsKept))

/-! ## Resets and RAIL-FAIL -/

/-- After a reset of the whole card no site is busy and no timer runs, whatever was before (R2). -/
theorem flagsTogether_resetCard (straps : Straps) (lines : Lines) (s : State) : FlagsTogether (resetCard straps lines s) := fun i => by
  rw [resetCard_eq]
  show (State.powerOn straps lines).sites[i].busy = TimerArray.reset.running[i]
  rw [powerOn_site]
  exact (Vector.getElem_replicate _).symm

/-- CARD-RESET clears both flags of every site, whatever they were before (R188). -/
theorem flagsTogether_cardReset (straps : Straps) (b : Block) (s : State) : FlagsTogether (cardResetOwner straps b s) := by
  have reset : ∀ x : State, FlagsTogether (resetBlocks straps x) := fun x i => by
    rw [resetBlocks_site]
    exact (Vector.getElem_replicate _).symm
  exact ((onlyCwc_completeAll _ _).trans (onlyCwc_respond _ _ _)).flagsKept (reset _)

theorem flagsKept_haltCard (s : State) : FlagsKept s (haltCard s) := by
  have halted : FlagsKept s (haltBlocks s) := flagsKept_of_eq
  have cut := halted.trans (leaves_cutShort (haltBlocks s)).flagsKept
  exact flagsKept_ite (cut.trans (leaves_finishRunEnd _ _).flagsKept) halted

theorem flagsKept_railFails (s : State) : FlagsKept s (railFails s) := by
  have fallen : FlagsKept s { s with alert := { s.alert with railFail := true } } := flagsKept_of_eq
  exact flagsKept_ite fallen (fallen.trans (flagsKept_haltCard _))

/-! ## Messages of the head -/

theorem flagsKept_hciIdle (s : State) : FlagsKept s (hciIdle s) := flagsKept_of_eq

theorem flagsKept_addStrays (n : Nat) (s : State) : FlagsKept s (addStrays n s) := flagsKept_of_eq

theorem flagsKept_takeContact (mask : SiteMask) (s : State) : FlagsKept s (takeContact mask s) := by
  have applied : FlagsKept s (applyContact mask (hciIdle s)) := (flagsKept_hciIdle s).trans (flagsKept_of_busy fun i => by
    rw [applyContact_site]
    split <;> rfl)
  exact flagsKept_ite (FlagsKept.settled (applied.trans (moves_continueStart _).flagsKept)) (flagsKept_addStrays 1 s)

theorem flagsKept_acceptEffect (r : Request) (s : State) : FlagsKept s (acceptEffect r s) := by
  cases r with
  | operate _ _ _ mask =>
    have started : FlagsKept s (startTimers mask s) := flagsKept_foldl (fun s i => flagsKept_startTimer i s) _ s
    exact started.trans flagsKept_of_eq
  | contactCheck | compare | drop | abandon => exact .refl s

theorem flagsKept_takeAccept (s : State) : FlagsKept s (takeAccept s) := by
  unfold takeAccept
  split
  · exact flagsKept_ite (FlagsKept.settled ((flagsKept_hciIdle s).trans (flagsKept_acceptEffect _ _))) (flagsKept_addStrays 1 s)
  · exact flagsKept_addStrays 1 s

theorem flagsKept_compareFailure (e : ResultEntry) (s : State) : FlagsKept s (compareFailure e s) := by
  cases hu : s.run.inflight with
  | none => unfold compareFailure; rw [hu]; exact .refl s
  | some u => rw [compareFailure_eq hu]; exact flagsKept_updSite _ (fun x => (spares_compareRec _ _ _ _ x).busy) s

theorem flagsKept_resultEntries (mask : SiteMask) (named : List Site) (es : List ResultEntry) (s : State) :
    FlagsKept s (resultEntries mask named es s) := by
  induction es generalizing named s with
  | nil => exact .refl s
  | cons e es ih => exact (flagsKept_ite (flagsKept_compareFailure e s) (flagsKept_addStrays 1 s)).trans (ih _ _)

theorem flagsKept_takeResult (es : List ResultEntry) (s : State) : FlagsKept s (takeResult es s) := by
  unfold takeResult
  split
  next mask _ _ _ =>
    have entered := (flagsKept_hciIdle s).trans (flagsKept_resultEntries mask [] es (hciIdle s))
    exact FlagsKept.settled (entered.trans flagsKept_of_eq)
  · exact flagsKept_addStrays 1 s

theorem flagsKept_judgeBusyTime (i : Site) (v : Nat) (s : State) : FlagsKept s (judgeBusyTime i v s) := by
  cases ht : s.timers.timed with
  | none => unfold judgeBusyTime; rw [ht]; exact .refl s
  | some t => rw [judgeBusyTime_eq ht]; exact flagsKept_updSite i (fun x => (spares_judgeRec _ _ _ x).busy) s

theorem flagsKept_readySite (i : Site) (s : State) : FlagsKept s (readySite i s) :=
  flagsKept_ite ((flagsKept_stopTimerAt i _ s).trans (flagsKept_judgeBusyTime i _ _)) (flagsKept_addStrays 1 s)

theorem flagsKept_takeReady (mask : SiteMask) (n : Nat) (s : State) : FlagsKept s (takeReady mask n s) :=
  FlagsKept.settled ((flagsKept_elapse n s).trans (flagsKept_foldl (fun s i => flagsKept_readySite i s) _ _))

/-- A trip clears both flags of its site (R5, R88). -/
theorem flagsKept_tripSite (i : Site) (s : State) : FlagsKept s (tripSite i s) := by
  refine flagsKept_ite (.refl s) (.trans (flagsKept_updSite i (fun x => ?_) s) (flagsKept_stopTimerAt i _ _))
  rfl

theorem flagsKept_recordFailure (i : Site) (kind : FailKind) (v : Nat) (o : Option (BitVec 32)) (s : State) :
    FlagsKept s (recordFailure i kind v o s) := by
  rw [recordFailure_eq]
  exact flagsKept_updSite i (fun x => (spares_failRec _ _ _ _ x).busy) s

theorem flagsKept_takeOvercurrent (i : Site) (s : State) : FlagsKept s (takeOvercurrent i s) := by
  have tripped : FlagsKept s (cancelDrop i (tripSite i s)) := (flagsKept_tripSite i s).trans flagsKept_of_eq
  have left : FlagsKept s (leaveUnit i (recordFailure i .alarm 0 none (cancelDrop i (tripSite i s)))) :=
    (tripped.trans (flagsKept_recordFailure i .alarm 0 none _)).trans flagsKept_of_eq
  exact flagsKept_ite (.refl s) (FlagsKept.settled (flagsKept_ite left tripped))

theorem flagsKept_takeHeadFault (s : State) : FlagsKept s (takeHeadFault s) :=
  FlagsKept.settled ((leaves_endRun .headFault s).flagsKept.trans flagsKept_of_eq)

/-! ## The ends of the running times -/

theorem flagsKept_fillError (k : RequestKind) (s : State) : FlagsKept s (fillError k s) := by
  unfold fillError
  split
  · exact .refl s
  · exact flagsKept_of_eq

theorem flagsKept_passDeadline (s : State) : FlagsKept s (passDeadline s) := by
  unfold passDeadline
  split
  · exact .refl s
  next o _ =>
    have filled := (flagsKept_elapse o.deadline s).trans (flagsKept_fillError o.request.kind _)
    have pumped := (filled.trans (flagsKept_hciIdle _)).trans (leaves_hciPump _).flagsKept
    exact FlagsKept.settled (pumped.trans (leaves_endRun _ _).flagsKept)

theorem flagsKept_expireSite (i : Site) (t : TimedStep) (s : State) : FlagsKept s (expireSite i t s) := by
  have failed : ∀ x : State, FlagsKept x (busyFailure i .slow t.limits.high t x) := fun x => by
    rw [busyFailure_eq]
    exact flagsKept_updSite i (fun y => (spares_busyFailRec _ _ _ _ y).busy) x
  exact ((flagsKept_stopTimerAt i _ s).trans (failed _)).trans flagsKept_of_eq

theorem flagsKept_passHighLimit (i : Site) (s : State) : FlagsKept s (passHighLimit i s) := by
  unfold passHighLimit
  split
  · exact .refl s
  · exact flagsKept_ite (FlagsKept.settled ((flagsKept_elapse _ s).trans (flagsKept_expireSite i _ _))) (.refl s)

theorem flagsKept_passDwell (s : State) : FlagsKept s (passDwell s) :=
  flagsKept_ite (FlagsKept.settled flagsKept_of_eq) (.refl s)

theorem flagsKept_decideSync (s : State) : FlagsKept s (decideSync s) := by
  refine flagsKept_ite (.refl s) ?_
  split
  · exact flagsKept_of_eq
  · exact (leaves_endRun _ s).flagsKept

theorem flagsKept_passSyncTimeout (s : State) : FlagsKept s (passSyncTimeout s) := by
  unfold passSyncTimeout
  split
  · exact .refl s
  next r _ =>
    have stopped : FlagsKept s { elapse r s with run := { (elapse r s).run with syncRem := some 0 } } := flagsKept_of_eq
    have formed := stopped.trans (leaves_syncTimedOut _).flagsKept
    exact flagsKept_ite (FlagsKept.settled (formed.trans (flagsKept_decideSync _))) (.refl s)

theorem flagsKept_passSupplyWait (s : State) : FlagsKept s (passSupplyWait s) := by
  unfold passSupplyWait
  split
  · exact .refl s
  next r _ =>
    have stopped : FlagsKept s { elapse r s with run := { (elapse r s).run with supplyRem := some 0 } } := flagsKept_of_eq
    have givenUp := stopped.trans (leaves_giveUp _).flagsKept
    exact flagsKept_ite (FlagsKept.settled (givenUp.trans (leaves_endRun _ _).flagsKept)) (.refl s)

theorem flagsKept_passResumeGuard (s : State) : FlagsKept s (passResumeGuard s) := by
  have elapsed : FlagsKept s { elapse s.run.guardRem s with run := { (elapse s.run.guardRem s).run with guardRem := 0 } } :=
    flagsKept_of_eq
  exact flagsKept_ite (.refl s) (flagsKept_ite (FlagsKept.settled (elapsed.trans (moves_pauseTakesEffect _).flagsKept)) elapsed)

theorem flagsKept_passRollWindow (s : State) : FlagsKept s (passRollWindow s) := by
  unfold passRollWindow
  split
  · exact .refl s
  · exact FlagsKept.settled flagsKept_of_eq

/-! ## The link and the lines -/

theorem flagsKept_carried (x : Station) (f : Option Frame) (s : State) : FlagsKept s (carried x f s) := by
  rcases carried_cases x f s with hc | ⟨u, hm, hc⟩
  · rw [hc]; exact .refl s
  · rw [hc]; exact FlagsKept.settled hm.moves.flagsKept

theorem flagsKept_alertRises (s : State) : FlagsKept s (alertRises s) := by
  have risen : FlagsKept s { s with alert := { s.alert with level := true } } := flagsKept_of_eq
  refine flagsKept_ite (.refl s) (flagsKept_ite risen (risen.trans ?_))
  unfold riseEffect
  split
  · exact FlagsKept.settled (leaves_endRun _ _).flagsKept
  · exact flagsKept_of_eq

/-! ## Every command, every step -/

theorem flagsKept_exec {c : Instr} {s t : State} (he : exec c s = .next t) : FlagsKept s t := by
  cases c with
  | windowWrite offset v => exact (onlyCwc_windowWrite he).flagsKept
  | powerOnReset straps lines => obtain rfl := Host.Outcome.next.inj he; exact fun _ => flagsTogether_resetCard straps lines s
  | backplaneReset straps lines => obtain rfl := Host.Outcome.next.inj he; exact fun _ => flagsTogether_resetCard straps lines s
  | cardReset straps => obtain rfl := Host.Outcome.next.inj he; exact flagsKept_serve fun b x _ => flagsTogether_cardReset straps b x
  | postFirstByte | attentionFirstByte | attentionAcknowledge | railFailRelease =>
    obtain rfl := Host.Outcome.next.inj he
    exact flagsKept_of_eq
  | post v => obtain rfl := Host.Outcome.next.inj he; exact (onlyCwc_takePost _ s).flagsKept
  | setProfile | defineStep | deleteSteps | setStopOption =>
    obtain rfl := Host.Outcome.next.inj he
    exact flagsKept_serve fun b x => flagsKept_guarded (.trans flagsKept_of_eq (flagsKept_respond b .ok _))
  | run => obtain rfl := Host.Outcome.next.inj he; exact flagsKept_serve fun b x => flagsKept_guarded (flagsKept_startRun b x)
  | siteRestore =>
    obtain rfl := Host.Outcome.next.inj he
    exact flagsKept_serve fun b x => flagsKept_guarded ((flagsKept_restoreSites b.opMask x).trans (flagsKept_respond b .ok _))
  | clearResults =>
    obtain rfl := Host.Outcome.next.inj he
    exact flagsKept_serve fun b x => flagsKept_guarded ((flagsKept_clearAccounts x).trans (flagsKept_respond b .ok _))
  | readStatus | readResult | readPeers =>
    obtain rfl := Host.Outcome.next.inj he
    exact flagsKept_serve fun b x => (onlyCwc_respondWith b .ok _ x).flagsKept
  | readSite | readBadBlocks =>
    obtain rfl := Host.Outcome.next.inj he
    refine flagsKept_serve fun b x => ?_
    simp only [readSiteOwner, readBadBlocksOwner]
    split
    · exact flagsKept_respond _ _ x
    · exact (onlyCwc_respondWith _ _ _ x).flagsKept
  | readFailLog => obtain rfl := Host.Outcome.next.inj he; exact flagsKept_serve flagsKept_readFailLog
  | rewindLog =>
    obtain rfl := Host.Outcome.next.inj he
    exact flagsKept_serve fun b x => flagsKept_guarded ((flagsKept_rewindLogs b.opMask x).trans (flagsKept_respond b .ok _))
  | snapshot =>
    obtain rfl := Host.Outcome.next.inj he
    refine flagsKept_serve fun b x => ?_
    unfold snapshotOwner
    split
    · exact flagsKept_respond _ _ x
    · exact .trans flagsKept_of_eq (flagsKept_respond _ _ (setLatch _ x))
  | readSnapshot =>
    obtain rfl := Host.Outcome.next.inj he
    refine flagsKept_serve fun b x => ?_
    unfold readSnapshotOwner
    split
    · exact .trans flagsKept_of_eq (onlyCwc_respondWith _ _ _ (setLatch none x)).flagsKept
    · exact (onlyCwc_respondWith _ _ _ x).flagsKept
  | pause => obtain rfl := Host.Outcome.next.inj he; exact flagsKept_serve fun b x => flagsKept_guarded (flagsKept_acceptPause b x)
  | resume => obtain rfl := Host.Outcome.next.inj he; exact flagsKept_serve flagsKept_resumeOwner
  | abort => obtain rfl := Host.Outcome.next.inj he; exact flagsKept_serve flagsKept_abortOwner
  | raiseAlert | clearAlert =>
    obtain rfl := Host.Outcome.next.inj he
    exact flagsKept_serve fun b x => .trans flagsKept_of_eq (flagsKept_respond b .ok _)
  | contact mask => obtain rfl := Host.Outcome.next.inj he; exact flagsKept_takeContact mask s
  | accept => obtain rfl := Host.Outcome.next.inj he; exact flagsKept_takeAccept s
  | result es => obtain rfl := Host.Outcome.next.inj he; exact flagsKept_takeResult es s
  | ready mask n => obtain rfl := Host.Outcome.next.inj he; exact flagsKept_takeReady mask n s
  | alarmSiteOvercurrent i => obtain rfl := Host.Outcome.next.inj he; exact flagsKept_takeOvercurrent i s
  | alarmHeadFault => obtain rfl := Host.Outcome.next.inj he; exact flagsKept_takeHeadFault s
  | replyDeadline => obtain rfl := Host.Outcome.next.inj he; exact flagsKept_passDeadline s
  | highLimitExpiry i => obtain rfl := Host.Outcome.next.inj he; exact flagsKept_passHighLimit i s
  | dwellExpiry => obtain rfl := Host.Outcome.next.inj he; exact flagsKept_passDwell s
  | syncTimeout => obtain rfl := Host.Outcome.next.inj he; exact flagsKept_passSyncTimeout s
  | supplyWaitExpiry => obtain rfl := Host.Outcome.next.inj he; exact flagsKept_passSupplyWait s
  | resumeGuardExpiry => obtain rfl := Host.Outcome.next.inj he; exact flagsKept_passResumeGuard s
  | rollWindowExpiry => obtain rfl := Host.Outcome.next.inj he; exact flagsKept_passRollWindow s
  | frameStart => obtain rfl := Host.Outcome.next.inj he; exact (linkSideOnly_startFrame s).flagsKept
  | arbitrationLost => obtain rfl := Host.Outcome.next.inj he; exact FlagsKept.settled (linkSideOnly_loseAttempt s).flagsKept
  | frameVoid => obtain rfl := Host.Outcome.next.inj he; exact FlagsKept.settled (linkMoves_voidAttempt s).moves.flagsKept
  | release | withdraw | leave | state | roll | mark | wait | claim =>
    obtain rfl := Host.Outcome.next.inj he
    exact flagsKept_carried _ _ s
  | alertRise => obtain rfl := Host.Outcome.next.inj he; exact flagsKept_alertRises s
  | alertFall => obtain rfl := Host.Outcome.next.inj he; exact flagsKept_ite (.refl s) flagsKept_of_eq
  | railFail => obtain rfl := Host.Outcome.next.inj he; exact flagsKept_railFails s

/-- Settles O56: a tick leaves both flags, and every command starts and stops a timer together with its site's busy flag. -/
theorem flagsStayTogether : Obligations.FlagsStayTogether := by
  intro s t h hst
  unfold step at hst
  split at hst
  · obtain rfl := Host.Outcome.next.inj hst
    exact flagsKept_elapse 1 s h
  next c rest _ => exact flagsKept_exec (s := s.withPending rest) hst h

end Sys2Proof.Machine
end

section
/-! The snapshot latch: SNAPSHOT and READ-SNAPSHOT by what it holds (R97, R98). -/

namespace Sys2Proof.Machine

theorem exec_snapshot {b : Block} {s s0 : State} (h : Served .snapshot b s s0) : exec .snapshot s = .next (snapshotOwner b s0) :=
  congrArg _ (serve_served h.1.1 h.1.2 h.2)

theorem exec_readSnapshot {b : Block} {s s0 : State} (h : Served .readSnapshot b s s0) :
    exec .readSnapshot s = .next (readSnapshotOwner b s0) := congrArg _ (serve_served h.1.1 h.1.2 h.2)

/-- An EMPTY latch takes a record of the values in force (R97). -/
theorem snapshotOwner_empty {b : Block} {s : State} (h : s.timers.latch = none) :
    snapshotOwner b s = respond b .ok (setLatch (some (snapshotOf s)) s) := by
  unfold snapshotOwner
  rw [h]

/-- A HELD latch keeps its own record (R97). -/
theorem snapshotOwner_held {b : Block} {s : State} {n : Snapshot} (h : s.timers.latch = some n) :
    snapshotOwner b s = respond b .held s := by
  unfold snapshotOwner
  rw [h]

/-- A HELD latch is written out and emptied (R98). -/
theorem readSnapshotOwner_held {b : Block} {s : State} {n : Snapshot} (h : s.timers.latch = some n) :
    readSnapshotOwner b s = respondWith b .ok (snapshotBytes 1 n) (setLatch none s) := by
  unfold readSnapshotOwner
  rw [h]

/-- With an EMPTY latch a live record is written out (R98). -/
theorem readSnapshotOwner_live {b : Block} {s : State} (h : s.timers.latch = none) :
    readSnapshotOwner b s = respondWith b .ok (snapshotBytes 2 (snapshotOf s)) s := by
  unfold readSnapshotOwner
  rw [h]

theorem length_snapshotBytes (source : Nat) (n : Snapshot) : (snapshotBytes source n).length = 80 := by
  simp only [snapshotBytes, List.length_append, length_beBytes, length_optByte, length_optUnit, length_reserved,
    length_flatMap_const (length_beBytes 4), Vector.length_toList]

/-- A buffer that fails the rule of R184 is refused, the halt and the operand length having passed (R181). -/
theorem windowChecks_buffer {c : Cmd} {b : Block} {s : State} {n : Nat} (read : c.isRead = true)
    (length : c.operandLength = some b.opLength) (short : b.opLength ≤ 48) (hn : c.returnLength = some n) (hc : c ≠ .run)
    (hb : bufferOk b n = false) : windowChecks c b s = some .bufferRange := by
  have notRun : (c == .run) = false := beq_eq_false_iff_ne.mpr hc
  have checked : bufferCheck c b = false := by
    unfold bufferCheck
    simp only [hn, hb, notRun, Bool.false_and, Bool.or_false]
  unfold windowChecks
  rw [length, checked, read, decide_eq_false (Nat.not_lt.mpr short)]
  simp [firstRefusal]

/-- Settles O16: a full latch keeps its record at SNAPSHOT and is emptied at READ-SNAPSHOT; the record fits the checked buffer. -/
theorem snapshotLatched : Obligations.SnapshotLatched := by
  intro b s s0
  refine ⟨fun serving halted => ?_, fun serving length bad => ?_, fun h empty => ?_, fun n h held => ?_,
    fun n hm hp h held => ?_, fun hm hp h empty => ?_⟩
  · exact congrArg _ (serve_refused serving.1 serving.2 (windowChecks_halted halted rfl))
  · have refused : windowChecks .readSnapshot b s0 = some .bufferRange :=
      windowChecks_buffer rfl (congrArg some length.symm) (by omega) rfl nofun bad
    exact congrArg _ (serve_refused serving.1 serving.2 refused)
  · rw [exec_snapshot h, snapshotOwner_empty empty]
    rfl
  · rw [exec_snapshot h, snapshotOwner_held held]
  · rw [exec_readSnapshot h, readSnapshotOwner_held held]
    obtain ⟨⟨taken, -⟩, checked⟩ := h
    obtain ⟨low, high⟩ := buffer_of_windowChecks checked rfl nofun
    have canonical : MemoryCanonical (setLatch none s0) := by rw [takeBlock_eq taken]; exact hm
    exact ⟨_, rfl, length_snapshotBytes 1 n,
      returned_respondWith canonical hp low (by rwa [length_snapshotBytes])⟩
  · rw [exec_readSnapshot h, readSnapshotOwner_live empty]
    exact ⟨_, rfl, returned_served h hm hp (congrArg some (length_snapshotBytes 2 _).symm) nofun⟩

end Sys2Proof.Machine
end

section
/-! The tick that passes on an empty queue, field by field (R59, R81, R87). -/

namespace Sys2Proof.Machine

theorem step_empty {s : State} (h : s.pending = []) : step s = .next (elapse 1 s) := by
  unfold step
  rw [h]

/-- A tick of a running timer: it rises by 1 below the high limit and stands at or above it (R87, log 3). -/
theorem timerAfter_one (high v : Nat) : timerAfter high v 1 = if v < high then v + 1 else v := by
  unfold timerAfter
  split <;> omega

/-- The run after a tick: the times of a phase fall only while RUNNING in it (R59), the resume guard always (R81). -/
theorem elapse_run (n : Nat) (s : State) : (elapse n s).run = { s.run with
    dwellRem := if s.run.seq = .running ∧ s.run.phase = .dwell then s.run.dwellRem - n else s.run.dwellRem
    syncRem := if s.run.seq = .running ∧ s.run.phase = .sync then s.run.syncRem.map (· - n) else s.run.syncRem
    supplyRem := if s.run.seq = .running ∧ s.run.phase = .supply then s.run.supplyRem.map (· - n) else s.run.supplyRem
    guardRem := s.run.guardRem - n } := by
  simp only [elapse, Bool.and_eq_true, beq_iff_eq]

/-- Settles O2: the tick is `elapse 1`, read field by field. -/
theorem emptyQueuePassesTick : Obligations.EmptyQueuePassesTick := by
  intro s empty
  refine ⟨elapse 1 s, step_empty empty, fun i d timed running => ?_, fun i still => ?_, rfl, rfl, elapse_run 1 s, rfl, empty,
    rfl, rfl, rfl, rfl, rfl, rfl, rfl, rfl⟩
  · rw [elapse_values, timed]
    simp only [running, if_true, timerAfter_one]
  · rw [elapse_values]
    rcases still with stopped | untimed
    · cases s.timers.timed with
      | none => rfl
      | some d => simp [stopped]
    · rw [untimed]

end Sys2Proof.Machine
end

section
/-! The fail logs read and rewound: READ-FAIL-LOG's conditions in order, its records and its cursor, and REWIND-LOG (R114, R115). -/

namespace Sys2Proof.Machine

/-! ## The buffer -/

/-- A command that passes its window checks has a buffer that meets the rule of R184 for its return length. -/
theorem bufferOk_of_windowChecks {c : Cmd} {b : Block} {s : State} {n : Nat} (h : windowChecks c b s = none)
    (hn : c.returnLength = some n) (hc : c ≠ .run) : bufferOk b n = true := by
  obtain ⟨-, h⟩ := firstRefusal_none h
  obtain ⟨-, h⟩ := firstRefusal_none h
  obtain ⟨passed, -⟩ := firstRefusal_none h
  have notRun : (c == .run) = false := beq_eq_false_iff_ne.mpr hc
  unfold bufferCheck at passed
  simpa only [hn, notRun, Bool.false_and, Bool.false_or, Bool.not_eq_false'] using passed

/-- A buffer that meets the rule of R184 lies in the area with its whole length. -/
theorem buffer_in_area {b : Block} {n : Nat} (h : bufferOk b n = true) :
    0x100 ≤ b.bufOffset ∧ b.bufOffset + b.bufLength ≤ 0x1000 := by
  unfold bufferOk at h
  simp only [Bool.and_eq_true] at h
  obtain ⟨⟨⟨low, high⟩, -⟩, -⟩ := h
  exact ⟨(of_decide_eq_true low).1, of_decide_eq_true high⟩

/-! ## The records -/

theorem length_failRecBytes (f : FailRec) : (failRecBytes f).length = 16 := by
  simp only [failRecBytes, List.length_append, length_beBytes]

/-- The record of READ-FAIL-LOG fills its return length when it holds no more records than are unread (R114, log 24). -/
theorem length_failLogBytes {s : State} {i : Site} {k most : Nat} (unread : k ≤ s.sites[i].log.length - s.sites[i].cursor)
    (fits : k ≤ most) : (failLogBytes s i k most).length = 8 + 16 * most := by
  simp only [failLogBytes, List.length_append, length_beBytes, length_reserved, length_flatMap_const length_failRecBytes,
    List.length_take, List.length_drop]
  omega

/-! ## READ-FAIL-LOG -/

theorem exec_readFailLog {b : Block} {s s0 : State} (h : Served .readFailLog b s s0) :
    exec .readFailLog s = .next (readFailLogOwner b s0) := congrArg _ (serve_served h.1.1 h.1.2 h.2)

/-- The card with a fail log read on by `k` records (R104). -/
def readOn (i : Site) (k : Nat) (s : State) : State := updSite i (fun x => { x with cursor := s.sites[i].cursor + k }) s

theorem readOn_eq (i : Site) (k : Nat) (s : State) : updSite i (fun x => { x with cursor := x.cursor + k }) s = readOn i k s :=
  updSite_congr rfl

theorem readFailLogOwner_noSite {b : Block} {s : State} (h : b.site = none) : readFailLogOwner b s = respond b .siteRange s := by
  unfold readFailLogOwner
  rw [h]

/-- READ-FAIL-LOG of a site: the count and the buffer refuse in order, and past them its unread records are returned (R114). -/
theorem readFailLogOwner_site {b : Block} {i : Site} {s : State} (h : b.site = some i) : readFailLogOwner b s =
    guarded b [(!decide (1 ≤ b.op 1 ∧ b.op 1 ≤ 32), .countRange), (decide (b.bufLength < 8 + 16 * b.op 1), .bufferRange)]
      (fun s => respondWith b .ok (failLogBytes s i (unreadCount (b.op 1) s.sites[i]) (b.op 1))
        (readOn i (unreadCount (b.op 1) s.sites[i]) s)) s := by
  unfold readFailLogOwner
  rw [h]
  simp only [readOn_eq]
  rfl

/-- A count of 1 to 32 is not refused. -/
theorem countOutside_false {n : Nat} (low : 1 ≤ n) (high : n ≤ 32) : (!decide (1 ≤ n ∧ n ≤ 32)) = false := by
  rw [decide_eq_true ⟨low, high⟩]
  rfl

theorem countOutside_true {n : Nat} (h : n = 0 ∨ 32 < n) : (!decide (1 ≤ n ∧ n ≤ 32)) = true := by
  rw [decide_eq_false (by omega)]
  rfl

/-- The record of READ-FAIL-LOG fits the buffer that it has checked, and the cursor is moved before the record is written. -/
theorem returned_failLog {b : Block} {i : Site} {k : Nat} {s s0 : State} (h : Served .readFailLog b s s0) (hm : MemoryCanonical s)
    (hp : postValid b.offset = true) (room : 8 + 16 * b.op 1 ≤ b.bufLength)
    (unread : k ≤ s0.sites[i].log.length - s0.sites[i].cursor) (fits : k ≤ b.op 1) :
    Returned b (failLogBytes s0 i k (b.op 1)) (readOn i k s0)
      (respondWith b .ok (failLogBytes s0 i k (b.op 1)) (readOn i k s0)) := by
  obtain ⟨⟨taken, -⟩, checked⟩ := h
  obtain ⟨low, high⟩ := buffer_in_area (bufferOk_of_windowChecks checked rfl nofun)
  have length := length_failLogBytes unread fits
  have canonical : MemoryCanonical (readOn i k s0) := by rw [takeBlock_eq taken]; exact hm
  exact returned_respondWith canonical hp low (by omega)

/-! ## REWIND-LOG -/

theorem exec_rewindLog {b : Block} {s s0 : State} (h : Served .rewindLog b s s0) :
    exec .rewindLog s = .next (rewindLogOwner b s0) := congrArg _ (serve_served h.1.1 h.1.2 h.2)

theorem rewindLogs_site (mask : SiteMask) (s : State) (i : Site) : (rewindLogs mask s).sites[i] =
    if inMask mask i then { s.sites[i] with cursor := 0 } else s.sites[i] := tabulate_get _ _

/-- Settles O15: READ-FAIL-LOG's conditions are reached in order, and past them the cursor moves by the records returned; REWIND-LOG
names at least one site or is refused. -/
theorem failLogReadAndRewound : Obligations.FailLogReadAndRewound := by
  refine ⟨fun b s s0 h => ?_, fun b s s0 ⟨taken, code⟩ halted => ?_, fun b s s0 h => ?_⟩
  · rw [exec_readFailLog h]
    refine ⟨fun beyond => congrArg _ (readFailLogOwner_noSite (site_none beyond)), fun named count => ?_,
      fun named low high short => ?_, fun i hm hp site low high room => ?_⟩
    · have site : b.site = some ⟨b.op 0, named⟩ := site_of_op rfl
      rw [readFailLogOwner_site site, guarded_first (countOutside_true count)]
    · have site : b.site = some ⟨b.op 0, named⟩ := site_of_op rfl
      rw [readFailLogOwner_site site, guarded_next (countOutside_false low high), guarded_first (decide_eq_true short)]
    · rw [readFailLogOwner_site (site_of_op site), guarded_next (countOutside_false low high),
        guarded_next (decide_eq_false (Nat.not_lt.mpr room)), guarded_accepted rfl]
      exact ⟨_, _, rfl, rfl, returned_failLog h hm hp room (Nat.min_le_right _ _) (Nat.min_le_left _ _)⟩
  · exact congrArg _ (serve_refused taken code (windowChecks_halted halted rfl))
  · rw [exec_rewindLog h]
    refine ⟨fun empty => congrArg _ (guarded_first (beq_iff_eq.mpr empty)), fun named => ⟨rewindLogs b.opMask s0, ?_, rfl, ?_⟩⟩
    · exact congrArg _ ((guarded_next (beq_eq_false_iff_ne.mpr named)).trans (guarded_accepted rfl))
    · exact fun i => rewindLogs_site b.opMask s0 i

end Sys2Proof.Machine
end

section
/-! What the card's own machinery leaves of the mainframe side: the operations of the run and the head leave it altogether, the Rail Share
Unit moves its own frames and its own record, and every own action leaves the link and its tables steady. -/

namespace Sys2Proof.Machine

/-! ## Operations beside the mainframe side -/

/-- Nothing of the mainframe side differs: link, peer table, rail share and Sync Unit. -/
structure LinkSame (s t : State) : Prop where
  link : t.link = s.link
  peers : t.peers = s.peers
  rail : t.rail = s.rail
  sync : t.sync = s.sync

theorem LinkSame.refl (s : State) : LinkSame s s := ⟨rfl, rfl, rfl, rfl⟩

theorem LinkSame.trans {s t u : State} (h : LinkSame s t) (h' : LinkSame t u) : LinkSame s u :=
  ⟨h'.link.trans h.link, h'.peers.trans h.peers, h'.rail.trans h.rail, h'.sync.trans h.sync⟩

theorem linkSame_of_eq {s t : State} (h : (t.link, t.peers, t.rail, t.sync) = (s.link, s.peers, s.rail, s.sync)) : LinkSame s t := by
  obtain ⟨link, peers, rail, sync⟩ : _ ∧ _ ∧ _ ∧ _ := by simpa only [Prod.mk.injEq] using h
  exact ⟨link, peers, rail, sync⟩

theorem linkSame_ite {c : Prop} [Decidable c] {s t u : State} (ht : LinkSame s t) (hu : LinkSame s u) :
    LinkSame s (if c then t else u) := by
  split
  · exact ht
  · exact hu

theorem linkSame_foldl {f : State → Site → State} (hf : ∀ s i, LinkSame s (f s i)) (l : List Site) (s : State) :
    LinkSame s (l.foldl f s) := by
  induction l generalizing s with
  | nil => exact .refl s
  | cons i l ih => exact (hf s i).trans (ih _)

theorem OnlyCwc.linkSame {s t : State} (h : OnlyCwc s t) : LinkSame s t := by
  rw [h.eq]
  exact linkSame_of_eq rfl

theorem linkSame_hciDue {s t : State} (h : hciDue s = some t) : LinkSame s t := by
  obtain ⟨_, ⟨_, rfl⟩ | ⟨r, _, _, ha, hn⟩⟩ := hciDue_cases h
  · exact linkSame_of_eq rfl
  · by_cases hr : r = .abandon
    · rw [ha hr]; exact linkSame_of_eq rfl
    · rw [hn hr]; exact linkSame_of_eq rfl

theorem linkSame_hciPump (s : State) : LinkSame s (hciPump s) := by
  unfold hciPump
  cases h : hciDue s with
  | none => exact .refl s
  | some t => exact linkSame_hciDue h

theorem linkSame_handRequest (r : Request) (s : State) : LinkSame s (handRequest r s) :=
  .trans (linkSame_of_eq (by rfl)) (linkSame_hciPump { s with hci := { s.hci with held := some r } })

theorem linkSame_handAbandon (s : State) : LinkSame s (handAbandon s) :=
  .trans (linkSame_ite (linkSame_of_eq (by rfl)) (.refl s)) (linkSame_handRequest _ _)

theorem linkSame_endRun (cause : EndCause) (s : State) : LinkSame s (endRun cause s) := by
  have marked : LinkSame s (endingState cause s) := linkSame_of_eq rfl
  exact linkSame_ite (.refl s) (linkSame_ite marked (marked.trans (linkSame_handAbandon _)))

theorem linkSame_unitDue {s t : State} (h : unitDue s = some t) : LinkSame s t := by
  unfold unitDue at h
  split at h
  · obtain ⟨_, h⟩ := Option.ite_none_right_eq_some.mp h
    cases h
    exact linkSame_of_eq rfl
  · cases h

theorem linkSame_syncPassed (s : State) : LinkSame s (syncPassed s) := by
  unfold syncPassed
  split
  · exact linkSame_ite (linkSame_of_eq (by rfl)) (.refl s)
  · exact linkSame_of_eq rfl
  · exact linkSame_of_eq rfl
  · exact .refl s

theorem linkSame_takeVisit (un : Nat) (s : State) : LinkSame s (takeVisit un s) := by
  have issued : ∀ mask x, LinkSame x (issueVisit un mask x) := fun mask x =>
    .trans (t := _) (linkSame_of_eq (by rfl)) (linkSame_handRequest _ _)
  exact linkSame_ite (linkSame_of_eq (by rfl)) (linkSame_ite (linkSame_of_eq (by rfl)) (.trans (linkSame_of_eq (by rfl)) (issued _ _)))

theorem linkSame_advanceVisit (s : State) : LinkSame s (advanceVisit s) := by
  unfold advanceVisit
  split
  · exact .trans (linkSame_of_eq (by rfl)) (linkSame_takeVisit _ _)
  · exact linkSame_of_eq rfl

theorem linkSame_formPassPlan (s : State) : LinkSame s (formPassPlan s) := by
  refine linkSame_ite (linkSame_of_eq (by rfl)) ?_
  split
  · exact linkSame_endRun _ s
  · exact linkSame_of_eq rfl

theorem linkSame_enterStep (k : Nat) (rec : StepRecord) (s : State) : LinkSame s (enterStep k rec s) := by
  have timed : ∀ x, LinkSame x (timeStep k rec x) := fun x => by cases rec <;> exact linkSame_of_eq rfl
  have begun : ∀ x, LinkSame x (beginStep rec x) := fun x => by
    unfold beginStep
    split
    · exact linkSame_ite (linkSame_of_eq (by rfl)) (.trans (linkSame_of_eq (by rfl)) (linkSame_formPassPlan _))
    · exact linkSame_of_eq rfl
  exact linkSame_ite (linkSame_endRun _ s) (.trans (linkSame_of_eq (by rfl)) ((timed _).trans (begun _)))

theorem linkSame_runVisits (p : Phase) (s : State) : LinkSame s (runVisits p s) :=
  linkSame_ite (linkSame_of_eq (by rfl)) (linkSame_of_eq (by rfl))

theorem linkSame_exitStep (s : State) : LinkSame s (exitStep s) :=
  linkSame_ite (.trans (linkSame_of_eq (by rfl)) (linkSame_endRun _ _)) (linkSame_of_eq (by rfl))

theorem linkSame_becomePaused (stage : Stage) (s : State) : LinkSame s (becomePaused stage s) :=
  .trans (linkSame_of_eq (by rfl)) (onlyCwc_finishPause _ _).linkSame

/-! ## The Rail Share Unit's own moves -/

/-- The kinds that the Rail Share Unit hands over. -/
def FrameKind.isShare : FrameKind → Bool
  | .release | .withdraw | .wait | .claim => true
  | .leave | .state | .roll | .mark => false

/-- One elementary move of the Rail Share Unit: it hands over a frame of its own, removes its CLAIM or WAIT, or changes its record, its rail
state and its waiter list standing. -/
inductive RailMove : State → State → Prop
  | hand (s : State) (f : Frame) (h : f.kind.isShare = true) : RailMove s (handFrame f s)
  | remove (s : State) (k : FrameKind) (h : k = .claim ∨ k = .wait) : RailMove s (removeFrame k s)
  | rail (s : State) (r : Rail) (hs : r.st = s.rail.st) (hw : r.waiters = s.rail.waiters) : RailMove s { s with rail := r }

/-- A chain of such moves. -/
abbrev RailMoves : State → State → Prop := Relation.ReflTransGen RailMove

theorem railMoves_hand {f : Frame} (h : f.kind.isShare = true) (s : State) : RailMoves s (handFrame f s) := .single (.hand s f h)

theorem railMoves_remove {k : FrameKind} (h : k = .claim ∨ k = .wait) (s : State) : RailMoves s (removeFrame k s) :=
  .single (.remove s k h)

theorem railMoves_rail {s : State} (r : Rail) (hs : r.st = s.rail.st) (hw : r.waiters = s.rail.waiters) :
    RailMoves s { s with rail := r } := .single (.rail s r hs hw)

theorem railMoves_ite {c : Prop} [Decidable c] {s t u : State} (ht : RailMoves s t) (hu : RailMoves s u) :
    RailMoves s (if c then t else u) := by
  split
  · exact ht
  · exact hu

theorem railMoves_evaluateClaim (s : State) : RailMoves s (evaluateClaim s) := by
  unfold evaluateClaim
  split
  · exact .refl
  next d _ =>
    have claimed : RailMoves s (if s.link.out.claim.map (·.1) = some d then s else handFrame (.claim d (claimStep s)) s) :=
      railMoves_ite .refl (railMoves_hand rfl s)
    have removed : RailMoves s (removeFrame .claim s) := railMoves_remove (.inl rfl) s
    exact railMoves_ite (railMoves_ite (railMoves_ite (claimed.trans (railMoves_remove (.inr rfl) _)) claimed)
      (railMoves_ite (removed.trans (railMoves_hand rfl _)) removed)) .refl

theorem railMoves_seekDemand (d : Nat) (s : State) : RailMoves s (seekDemand d s) :=
  (railMoves_rail _ (by rfl) (by rfl)).trans (railMoves_evaluateClaim _)

theorem railMoves_handDemand (d : Nat) (s : State) : RailMoves s (handDemand d s) :=
  railMoves_ite (railMoves_rail _ (by rfl) (by rfl)) (railMoves_seekDemand d s)

theorem railMoves_giveBack (s : State) : RailMoves s (giveBack s) := by
  rcases giveBack_cases s with h | h | h <;> rw [h]
  · exact railMoves_hand rfl s
  · exact railMoves_hand rfl s

theorem railMoves_endGiveUp (s : State) : RailMoves s (endGiveUp s) := by
  unfold endGiveUp
  dsimp only
  split
  · exact (railMoves_rail _ (by rfl) (by rfl)).trans (railMoves_seekDemand _ _)
  · exact railMoves_rail _ (by rfl) (by rfl)

theorem railMoves_giveUpSteps (s : State) : RailMoves s (giveUpSteps s) := by
  have back := railMoves_giveBack s
  have ended := back.trans (railMoves_endGiveUp _)
  exact railMoves_ite (railMoves_ite ended (railMoves_ite back (back.trans (railMoves_rail _ (by rfl) (by rfl))))) .refl

theorem railMoves_giveUp (s : State) : RailMoves s (giveUp s) :=
  (((railMoves_rail _ (by rfl) (by rfl)).trans (railMoves_remove (.inl rfl) _)).trans (railMoves_remove (.inr rfl) _)).trans
    (railMoves_giveUpSteps _)

theorem railMoves_releasePass (s : State) : RailMoves s (releasePass s) :=
  railMoves_ite ((railMoves_rail _ (by rfl) (by rfl)).trans (railMoves_hand rfl _)) .refl

theorem railMoves_attemptFailed (k : FrameKind) (s : State) : RailMoves s (attemptFailed k s) := by
  refine .trans ?_ (railMoves_giveUpSteps _)
  split
  · exact railMoves_ite (railMoves_evaluateClaim s) (railMoves_remove (.inl rfl) s)
  · exact railMoves_ite .refl (railMoves_remove (.inr rfl) s)
  · exact .refl

/-! ## A steady link -/

/-- What an own action leaves of the link's tables: the peer table, the waiter list, the own number and the budgets. -/
structure TablesKept (s t : State) : Prop where
  peers : t.peers = s.peers
  waiters : t.rail.waiters = s.rail.waiters
  own : t.link.own = s.link.own
  ownBudget : t.link.ownBudget = s.link.ownBudget
  effBudget : t.link.effBudget = s.link.effBudget

theorem TablesKept.refl (s : State) : TablesKept s s := ⟨rfl, rfl, rfl, rfl, rfl⟩

theorem TablesKept.trans {s t u : State} (h : TablesKept s t) (h' : TablesKept t u) : TablesKept s u :=
  ⟨h'.peers.trans h.peers, h'.waiters.trans h.waiters, h'.own.trans h.own, h'.ownBudget.trans h.ownBudget,
    h'.effBudget.trans h.effBudget⟩

theorem Leaves.tables {s t : State} (h : Leaves s t) : TablesKept s t := ⟨h.peers, h.waiters, h.own, h.ownBudget, h.effBudget⟩

/-- The kinds that stay pending until they are carried or the link is silenced: no owner removes them (R121, R122). -/
def FrameKind.isKept : FrameKind → Bool
  | .release | .withdraw | .leave | .state | .roll => true
  | .mark | .wait | .claim => false

/-- What an own action leaves of the link itself: the rail state, the link state and the objection count. A free line stays free, the kinds
that no owner removes stay pending, and a link that does not send takes nothing into its outgoing set. -/
structure LinkSteady (s t : State) : Prop where
  railSt : t.rail.st = s.rail.st
  st : t.link.st = s.link.st
  objections : t.link.objections = s.link.objections
  line : s.link.attempt = none → t.link.attempt = none
  kept : ∀ k : FrameKind, k.isKept = true → s.link.out.has k = true → t.link.out.has k = true
  silent : linkSends s = false → s.link.out = Outgoing.empty → t.link.out = Outgoing.empty

theorem linkSends_congr {s t : State} (h : t.link.st = s.link.st) : linkSends t = linkSends s := by simp only [linkSends, h]

theorem LinkSteady.refl (s : State) : LinkSteady s s := ⟨rfl, rfl, rfl, id, fun _ _ => id, fun _ => id⟩

theorem LinkSteady.trans {s t u : State} (h : LinkSteady s t) (h' : LinkSteady t u) : LinkSteady s u :=
  ⟨h'.railSt.trans h.railSt, h'.st.trans h.st, h'.objections.trans h.objections, fun hl => h'.line (h.line hl),
    fun k hk ho => h'.kept k hk (h.kept k hk ho), fun hm ho => h'.silent ((linkSends_congr h.st).trans hm) (h.silent hm ho)⟩

theorem linkSteady_of_eq {s t : State} (h : (t.rail.st, t.link.st, t.link.objections, t.link.attempt, t.link.out)
    = (s.rail.st, s.link.st, s.link.objections, s.link.attempt, s.link.out)) : LinkSteady s t := by
  obtain ⟨railSt, st, objections, line, out⟩ : _ ∧ _ ∧ _ ∧ _ ∧ _ := by simpa only [Prod.mk.injEq] using h
  exact ⟨railSt, st, objections, line.trans, fun k _ hk => by rw [out]; exact hk, fun _ => out.trans⟩

/-- What an own action, and every command that is not of the link, leaves of the mainframe side. -/
structure Steady (s t : State) : Prop extends TablesKept s t, LinkSteady s t

theorem Steady.refl (s : State) : Steady s s := ⟨.refl s, .refl s⟩

theorem Steady.trans {s t u : State} (h : Steady s t) (h' : Steady t u) : Steady s u :=
  ⟨h.toTablesKept.trans h'.toTablesKept, h.toLinkSteady.trans h'.toLinkSteady⟩

theorem steady_ite {c : Prop} [Decidable c] {s t u : State} (ht : Steady s t) (hu : Steady s u) : Steady s (if c then t else u) := by
  split
  · exact ht
  · exact hu

/-- A link that keeps all but its roll window, beside a peer table, a rail state and a waiter list that stand. -/
theorem steady_of_fields {s t : State} (hl : t.link = { s.link with rollWindow := t.link.rollWindow }) (hp : t.peers = s.peers)
    (hr : t.rail.st = s.rail.st) (hw : t.rail.waiters = s.rail.waiters) : Steady s t :=
  ⟨⟨hp, hw, by rw [hl], by rw [hl], by rw [hl]⟩, linkSteady_of_eq (by rw [hl, hr])⟩

theorem steady_of_eq {s t : State} (h : ({ t.link with rollWindow := none }, t.peers, t.rail.st, t.rail.waiters)
    = (({ s.link with rollWindow := none } : Link), s.peers, s.rail.st, s.rail.waiters)) : Steady s t := by
  obtain ⟨link, peers, railSt, waiters⟩ : _ ∧ _ ∧ _ ∧ _ := by simpa only [Prod.mk.injEq] using h
  exact steady_of_fields (congrArg (fun l : Link => { l with rollWindow := t.link.rollWindow }) link) peers railSt waiters

theorem LinkSame.steady {s t : State} (h : LinkSame s t) : Steady s t :=
  steady_of_fields (by rw [h.link]) h.peers (by rw [h.rail]) (by rw [h.rail])

/-- A frame put into an outgoing set is there, beside what was (R121). -/
theorem has_put (o : Outgoing) (f : Frame) (k : FrameKind) : (o.put f).has k = if k = f.kind then true else o.has k := by
  cases f <;> cases k <;> rfl

/-- A frame removed from an outgoing set is gone, and the others stay (R121). -/
theorem has_remove (o : Outgoing) (j k : FrameKind) : (o.remove j).has k = if k = j then false else o.has k := by
  cases j <;> cases k <;> rfl

theorem remove_empty (k : FrameKind) : Outgoing.empty.remove k = Outgoing.empty := by cases k <;> rfl

theorem steady_handFrame (f : Frame) (s : State) : Steady s (handFrame f s) := by
  unfold handFrame
  split
  next sends =>
    refine ⟨⟨rfl, rfl, rfl, rfl, rfl⟩, ⟨rfl, rfl, rfl, fun line => ?_, fun k _ ho => ?_, fun mute => ?_⟩⟩
    · rw [show s.link.attempt = none from line]; rfl
    · exact (has_put _ f k).trans (by rw [show s.link.out.has k = true from ho, ite_self])
    · exact absurd (mute.symm.trans sends) Bool.false_ne_true
  · exact .refl s

theorem steady_removeFrame {j : FrameKind} (hj : j.isKept = false) (s : State) : Steady s (removeFrame j s) := by
  refine ⟨⟨rfl, rfl, rfl, rfl, rfl⟩, ⟨rfl, rfl, rfl, id, fun k hk ho => ?_, fun _ empty => ?_⟩⟩
  · refine ((has_remove _ j k).trans (if_neg ?_)).trans ho
    rintro rfl
    exact Bool.false_ne_true (hj.symm.trans hk)
  · exact (congrArg (·.remove j) empty).trans (remove_empty j)

theorem RailMove.steady {s t : State} (h : RailMove s t) : Steady s t := by
  cases h with
  | hand f => exact steady_handFrame f s
  | remove k hk => rcases hk with rfl | rfl <;> exact steady_removeFrame rfl s
  | rail r hs hw => exact steady_of_fields rfl rfl hs hw

theorem RailMoves.steady {s t : State} (h : RailMoves s t) : Steady s t := by
  induction h with
  | refl => exact .refl s
  | tail _ hb ih => exact ih.trans hb.steady

/-! ## The Sync Unit -/

theorem steady_evaluateSync (s : State) : Steady s (evaluateSync s) := by
  unfold evaluateSync
  split
  · exact steady_ite (.trans (steady_of_eq (by rfl)) (linkSame_syncPassed _).steady) (.refl s)
  · exact .refl s

theorem steady_joinGroup (g : Group) (s : State) : Steady s (joinGroup g s) := .trans (steady_of_eq (by rfl)) (steady_handFrame _ _)

theorem steady_markStep (s : State) : Steady s (markStep s) := by
  unfold markStep
  split
  · exact (linkSame_syncPassed s).steady
  · exact .trans (steady_of_eq (by rfl)) ((steady_handFrame _ _).trans (steady_evaluateSync _))

theorem steady_leaveGroup (s : State) : Steady s (leaveGroup s) := by
  unfold leaveGroup
  split
  · exact .refl s
  · exact .trans (steady_of_eq (by rfl)) ((steady_removeFrame rfl _).trans (steady_handFrame _ _))

theorem steady_syncTimedOut (s : State) : Steady s (syncTimedOut s) := by
  unfold syncTimedOut
  split
  · exact steady_of_eq rfl
  · exact .refl s

/-! ## The sequencer -/

theorem steady_beginPhase (rec : StepRecord) (s : State) : Steady s (beginPhase rec s) := by
  cases rec with
  | erase | program => exact steady_ite (.trans (steady_of_eq (by rfl)) (linkSame_runVisits _ _).steady) (steady_of_eq (by rfl))
  | verify =>
    have first : Steady s { s with run := { s.run with pass := 1, restarted := false } } := steady_of_eq rfl
    exact first.trans (linkSame_runVisits _ _).steady
  | dwell => exact steady_of_eq rfl
  | sync => exact .trans (steady_of_eq (by rfl)) (steady_markStep _)

theorem steady_claimForPass (reload : Bool) (s : State) : Steady s (claimForPass reload s) :=
  steady_ite (.trans (steady_of_eq (by rfl)) (linkSame_endRun _ _).steady)
    (.trans (steady_ite (steady_of_eq (by rfl)) (steady_of_eq (by rfl))) (railMoves_handDemand _ _).steady)

theorem steady_startPass (s : State) : Steady s (startPass s) :=
  steady_ite (steady_of_eq (by rfl)) (steady_ite (steady_of_eq (by rfl)) (.trans (steady_of_eq (by rfl)) (steady_claimForPass _ _)))

theorem steady_reenterSupply (b : Bool) (s : State) : Steady s (reenterSupply b s) :=
  steady_ite (.trans (steady_of_eq (by rfl)) (linkSame_runVisits _ _).steady) (steady_claimForPass _ s)

theorem steady_endPass (s : State) : Steady s (endPass s) := by
  have released : Steady s (if (s.run.passDemand != 0) = true then releasePass s else s) :=
    steady_ite (railMoves_releasePass s).steady (.refl s)
  exact steady_ite (released.trans (steady_of_eq (by rfl))) (released.trans (steady_of_eq (by rfl)))

theorem steady_finishRunEnd (cause : EndCause) (s : State) : Steady s (finishRunEnd cause s) := by
  obtain ⟨_, link, peers, rail, _, _⟩ := finishRunEnd_others cause s
  exact steady_of_fields (by rw [link]) peers (by rw [rail]) (by rw [rail])

theorem steady_teardownDue {cause : EndCause} {s t : State} (h : teardownDue cause s = some t) : Steady s t := by
  unfold teardownDue at h
  split at h
  · obtain ⟨_, h⟩ := Option.ite_none_left_eq_some.mp h
    split at h
    · cases h; exact steady_finishRunEnd _ s
    · cases h; exact .trans (steady_of_eq (by rfl)) ((railMoves_giveUp _).steady.trans (steady_leaveGroup _))
  · obtain ⟨_, h⟩ := Option.ite_none_left_eq_some.mp h
    obtain ⟨_, h⟩ := Option.ite_none_left_eq_some.mp h
    cases h
    exact steady_finishRunEnd _ s

theorem steady_enterDue {k : Nat} {s t : State} (h : enterDue k s = some t) : Steady s t := by
  unfold enterDue at h
  split at h
  · cases h; exact (linkSame_enterStep _ _ s).steady
  · cases h

theorem steady_runningDue {s t : State} (h : runningDue s = some t) : Steady s t := by
  unfold runningDue at h
  cases hs : s.run.stage with
  | idle | contact | dwell | sync => simp [hs] at h
  | enter k => simp only [hs] at h; exact steady_enterDue h
  | begin =>
    simp only [hs, Option.map_eq_some_iff] at h
    obtain ⟨rec, _, rfl⟩ := h
    exact steady_beginPhase rec s
  | passStart => simp only [hs, Option.some.injEq] at h; subst h; exact steady_startPass s
  | reenter b =>
    simp only [hs, Option.ite_none_left_eq_some, Option.some.injEq] at h
    obtain ⟨_, rfl⟩ := h
    exact steady_reenterSupply b s
  | supply =>
    simp only [hs, Option.ite_none_right_eq_some, Option.some.injEq] at h
    obtain ⟨_, rfl⟩ := h
    exact (linkSame_runVisits _ s).steady
  | visits =>
    simp only [hs, Option.ite_none_left_eq_some] at h
    obtain ⟨_, h⟩ := h
    split at h
    · obtain ⟨_, h⟩ := Option.ite_none_left_eq_some.mp h
      cases h; exact steady_endPass s
    · obtain ⟨_, h⟩ := Option.ite_none_right_eq_some.mp h
      cases h; exact (linkSame_advanceVisit s).steady
  | closing =>
    simp only [hs, Option.ite_none_right_eq_some, Option.some.injEq] at h
    obtain ⟨_, rfl⟩ := h
    exact steady_of_eq rfl
  | exit =>
    simp only [hs, Option.ite_none_right_eq_some, Option.some.injEq] at h
    obtain ⟨_, rfl⟩ := h
    exact (linkSame_exitStep s).steady

theorem steady_pausingDue {s t : State} (h : pausingDue s = some t) : Steady s t := by
  have paused : ∀ stage, Steady s (becomePaused stage s) := fun stage => (linkSame_becomePaused stage s).steady
  unfold pausingDue at h
  cases hs : s.run.stage with
  | idle | contact => simp [hs] at h
  | enter k => simp only [hs] at h; exact steady_enterDue h
  | begin | passStart | dwell | sync => simp only [hs, Option.some.injEq] at h; subst h; exact paused _
  | reenter b =>
    simp only [hs, Option.ite_none_left_eq_some, Option.some.injEq] at h
    obtain ⟨_, rfl⟩ := h
    exact paused _
  | supply =>
    simp only [hs, Option.ite_none_right_eq_some, Option.some.injEq] at h
    obtain ⟨_, rfl⟩ := h
    exact paused _
  | visits =>
    simp only [hs, Option.ite_none_left_eq_some] at h
    obtain ⟨_, h⟩ := h
    repeat' split at h
    · cases h; exact steady_endPass s
    · cases h; exact paused _
    · cases h; exact paused _
    · cases h
    · cases h; exact (railMoves_giveUp s).steady
    · cases h
  | closing =>
    simp only [hs, Option.ite_none_right_eq_some, Option.some.injEq] at h
    obtain ⟨_, rfl⟩ := h
    exact steady_of_eq rfl
  | exit =>
    simp only [hs, Option.ite_none_right_eq_some, Option.some.injEq] at h
    obtain ⟨_, rfl⟩ := h
    exact (linkSame_exitStep s).steady

theorem steady_nextAction {s t : State} (h : nextAction s = some t) : Steady s t := by
  rcases nextAction_cases h with h | ⟨_, h⟩ | ⟨_, _, h⟩
  · exact (linkSame_hciDue h).steady
  · exact (linkSame_unitDue h).steady
  · unfold sequencerDue at h
    split at h
    · cases h
    · exact steady_teardownDue h
    · exact steady_runningDue h
    · obtain ⟨u, hu, rfl⟩ := Option.map_eq_some_iff.mp h
      exact (steady_pausingDue hu).trans (steady_of_eq (by rfl))
    · cases h

/-- Settling leaves the link and its tables steady. -/
theorem steady_settle (s : State) : Steady s (settle s) :=
  settle_keeps (P := Steady s) (fun _ _ h hs => hs.trans (steady_nextAction h)) s (.refl s)

theorem Steady.settled {s t : State} (h : Steady s t) : Steady s (settle t) := h.trans (steady_settle t)

end Sys2Proof.Machine
end

section
/-! Every command that is neither of the link nor a reset or a halt leaves the link and its tables steady. -/

namespace Sys2Proof.Machine

/-! ## Served commands -/

theorem steady_respond (b : Block) (r : Response) (s : State) : Steady s (respond b r s) := (onlyCwc_respond b r s).linkSame.steady

theorem steady_takeBlock {s s0 : State} {b : Block} (h : takeBlock s = some (b, s0)) : Steady s s0 := by
  rw [takeBlock_eq h]
  exact steady_of_eq rfl

/-- Serving leaves the link steady when the owner's work does. -/
theorem steady_serve {c : Cmd} {owner : Block → State → State} {s : State} (ho : ∀ b x, Steady x (owner b x)) :
    Steady s (serve c owner s) := by
  rcases serve_cases c owner s with hs | ⟨b, s0, ht, _, ⟨r, _, hs⟩ | ⟨_, hs⟩⟩
  · rw [hs]; exact .refl s
  · rw [hs]; exact (steady_takeBlock ht).trans (steady_respond b r s0)
  · rw [hs]; exact (steady_takeBlock ht).trans (ho b s0)

theorem steady_guarded {b : Block} {conds : List (Bool × Response)} {act : State → State} {s : State} (ha : Steady s (act s)) :
    Steady s (guarded b conds act s) := by
  unfold guarded
  split
  · exact steady_respond _ _ s
  · exact ha

/-- A served command that changes other blocks and completes. -/
theorem steady_serve_respond {c : Cmd} {conds : Block → State → List (Bool × Response)} {act : Block → State → State} {s : State}
    (ha : ∀ b x, Steady x (act b x)) :
    Steady s (serve c (fun b x => guarded b (conds b x) (fun y => respond b .ok (act b y)) x) s) :=
  steady_serve fun b x => steady_guarded ((ha b x).trans (steady_respond b .ok _))

theorem steady_respondWith (b : Block) (r : Response) (data : List Byte) (s : State) : Steady s (respondWith b r data s) :=
  (onlyCwc_respondWith b r data s).linkSame.steady

theorem steady_readFailLog (b : Block) (s : State) : Steady s (readFailLogOwner b s) := by
  unfold readFailLogOwner
  split
  · exact steady_respond _ _ s
  · exact steady_guarded (.trans (t := updSite _ _ s) (steady_of_eq (by rfl)) (steady_respondWith _ _ _ _))

theorem steady_startRun (b : Block) (s : State) : Steady s (startRun b s) :=
  .trans (steady_of_eq (by rfl)) (linkSame_handRequest _ _).steady

theorem steady_pauseTakesEffect (s : State) : Steady s (pauseTakesEffect s) :=
  steady_ite (.trans (steady_of_eq (by rfl)) (railMoves_giveUp _).steady) (steady_of_eq (by rfl))

theorem steady_acceptPause (b : Block) (s : State) : Steady s (acceptPause b s) :=
  steady_ite (steady_of_eq (by rfl)) (Steady.settled (.trans (steady_of_eq (by rfl)) (steady_pauseTakesEffect _)))

theorem steady_finishPause (r : Response) (s : State) : Steady s (finishPause r s) := (onlyCwc_finishPause r s).linkSame.steady

theorem steady_releaseSyncPass (s : State) : Steady s (releaseSyncPass s) :=
  steady_ite (steady_ite (steady_of_eq (by rfl)) (steady_of_eq (by rfl))) (.refl s)

theorem steady_resumeRun (s : State) : Steady s (resumeRun s) := by
  unfold resumeRun
  split
  · exact .trans (steady_of_eq (by rfl)) (steady_finishPause _ _)
  · exact .trans (t := cancelPausing s) (steady_of_eq (by rfl)) ((steady_releaseSyncPass _).trans (steady_finishPause _ _))
  · exact .trans (t := leavePaused s) (steady_of_eq (by rfl)) (steady_releaseSyncPass _)
  · exact .refl s

theorem steady_resumeOwner (b : Block) (s : State) : Steady s (resumeOwner b s) :=
  steady_guarded (Steady.settled (((steady_resumeRun s).trans (steady_of_eq (by rfl))).trans (steady_respond _ _ _)))

theorem steady_abortOwner (b : Block) (s : State) : Steady s (abortOwner b s) :=
  steady_guarded (Steady.settled (.trans (steady_of_eq (by rfl)) (linkSame_endRun _ _).steady))

/-! ## Messages of the head -/

theorem steady_continueStart (s : State) : Steady s (continueStart s) := by
  have joined : Steady s (match s.run.group with | some g => joinGroup g s | none => s) := by
    split
    · exact steady_joinGroup _ s
    · exact .refl s
  exact steady_ite (.refl s) (steady_ite (linkSame_endRun _ s).steady (joined.trans (steady_of_eq (by rfl))))

theorem steady_takeContact (mask : SiteMask) (s : State) : Steady s (takeContact mask s) :=
  steady_ite (Steady.settled (.trans (steady_of_eq (by rfl)) (steady_continueStart _))) (steady_of_eq (by rfl))

theorem linkSame_acceptEffect (r : Request) (s : State) : LinkSame s (acceptEffect r s) := by
  cases r with
  | operate _ _ _ mask =>
    have started : LinkSame s (startTimers mask s) := linkSame_foldl (fun _ _ => (linkSame_of_eq (by rfl))) _ s
    exact started.trans (linkSame_of_eq (by rfl))
  | contactCheck | compare | drop | abandon => exact .refl s

theorem steady_takeAccept (s : State) : Steady s (takeAccept s) := by
  unfold takeAccept
  split
  · exact steady_ite (Steady.settled (.trans (steady_of_eq (by rfl)) (linkSame_acceptEffect _ _).steady)) (steady_of_eq (by rfl))
  · exact steady_of_eq rfl

theorem linkSame_compareFailure (e : ResultEntry) (s : State) : LinkSame s (compareFailure e s) := by
  cases hu : s.run.inflight with
  | none => unfold compareFailure; rw [hu]; exact .refl s
  | some u => rw [compareFailure_eq hu]; exact linkSame_of_eq rfl

theorem linkSame_resultEntries (mask : SiteMask) (named : List Site) (es : List ResultEntry) (s : State) :
    LinkSame s (resultEntries mask named es s) := by
  induction es generalizing named s with
  | nil => exact .refl s
  | cons e es ih => exact (linkSame_ite (linkSame_compareFailure e s) (linkSame_of_eq (by rfl))).trans (ih _ _)

theorem steady_takeResult (es : List ResultEntry) (s : State) : Steady s (takeResult es s) := by
  unfold takeResult
  split
  next mask _ _ _ =>
    have entered : LinkSame s (resultEntries mask [] es (hciIdle s)) := .trans (linkSame_of_eq (by rfl)) (linkSame_resultEntries _ _ _ _)
    exact Steady.settled (entered.trans (linkSame_of_eq (by rfl))).steady
  · exact steady_of_eq rfl

theorem linkSame_readySite (i : Site) (s : State) : LinkSame s (readySite i s) := by
  have judged : ∀ v x, LinkSame x (judgeBusyTime i v x) := fun v x => by
    cases ht : x.timers.timed with
    | none => unfold judgeBusyTime; rw [ht]; exact .refl x
    | some t => rw [judgeBusyTime_eq ht]; exact linkSame_of_eq rfl
  exact linkSame_ite (.trans (linkSame_of_eq (by rfl)) (judged _ _)) (linkSame_of_eq (by rfl))

theorem steady_takeReady (mask : SiteMask) (n : Nat) (s : State) : Steady s (takeReady mask n s) :=
  Steady.settled (.trans (t := elapse n s) (steady_of_eq (by rfl)) (linkSame_foldl (fun s i => linkSame_readySite i s) _ _).steady)

theorem steady_takeOvercurrent (i : Site) (s : State) : Steady s (takeOvercurrent i s) := by
  have trip : LinkSame s (tripSite i s) := linkSame_ite (.refl s) (linkSame_of_eq (by rfl))
  have tripped : LinkSame s (cancelDrop i (tripSite i s)) := trip.trans (linkSame_of_eq rfl)
  have recorded : ∀ x, LinkSame x (recordFailure i .alarm 0 none x) := fun x => by
    rw [recordFailure_eq]
    exact linkSame_of_eq rfl
  have left : LinkSame s (leaveUnit i (recordFailure i .alarm 0 none (cancelDrop i (tripSite i s)))) :=
    (tripped.trans (recorded _)).trans (linkSame_of_eq (by rfl))
  exact steady_ite (.refl s) (Steady.settled (linkSame_ite left tripped).steady)

theorem steady_takeHeadFault (s : State) : Steady s (takeHeadFault s) :=
  Steady.settled ((linkSame_endRun .headFault s).steady.trans (steady_of_eq (by rfl)))

/-! ## The ends of the running times -/

theorem steady_passDeadline (s : State) : Steady s (passDeadline s) := by
  have filled : ∀ k x, LinkSame x (fillError k x) := fun k x => by
    obtain ⟨_, he⟩ := fillError_others k x
    rw [he]
    exact linkSame_of_eq rfl
  unfold passDeadline
  split
  · exact .refl s
  next o _ =>
    have idle := (filled o.request.kind (elapse o.deadline s)).trans (u := hciIdle _) (linkSame_of_eq (by rfl))
    have idled := idle.trans (linkSame_hciPump _)
    exact Steady.settled (.trans (t := elapse o.deadline s) (steady_of_eq (by rfl)) (idled.trans (linkSame_endRun _ _)).steady)

theorem steady_passHighLimit (i : Site) (s : State) : Steady s (passHighLimit i s) := by
  have expired : ∀ t x, LinkSame x (expireSite i t x) := fun t x => by
    unfold expireSite
    rw [busyFailure_eq]
    exact linkSame_of_eq rfl
  unfold passHighLimit
  split
  · exact .refl s
  · exact steady_ite (Steady.settled (.trans (t := elapse _ s) (steady_of_eq (by rfl)) (expired _ _).steady)) (.refl s)

theorem steady_passDwell (s : State) : Steady s (passDwell s) := steady_ite (Steady.settled (steady_of_eq (by rfl))) (.refl s)

theorem steady_decideSync (s : State) : Steady s (decideSync s) := by
  refine steady_ite (.refl s) ?_
  split
  · exact steady_of_eq rfl
  · exact (linkSame_endRun _ s).steady

theorem steady_passSyncTimeout (s : State) : Steady s (passSyncTimeout s) := by
  unfold passSyncTimeout
  split
  · exact .refl s
  · exact steady_ite (Steady.settled (.trans (steady_of_eq (by rfl)) ((steady_syncTimedOut _).trans (steady_decideSync _)))) (.refl s)

theorem steady_passSupplyWait (s : State) : Steady s (passSupplyWait s) := by
  unfold passSupplyWait
  split
  · exact .refl s
  · have ended : ∀ x : State, Steady x (endRun .supplyWaitTimeout (giveUp x)) := fun x =>
      (railMoves_giveUp x).steady.trans (linkSame_endRun _ _).steady
    exact steady_ite (Steady.settled (.trans (steady_of_eq (by rfl)) (ended _))) (.refl s)

theorem steady_passResumeGuard (s : State) : Steady s (passResumeGuard s) :=
  steady_ite (.refl s) (steady_ite (Steady.settled (.trans (steady_of_eq (by rfl)) (steady_pauseTakesEffect _))) (steady_of_eq (by rfl)))

theorem steady_alertRises (s : State) : Steady s (alertRises s) := by
  have raised : Steady s { s with alert := { s.alert with level := true } } := steady_of_eq rfl
  refine steady_ite (.refl s) (steady_ite (steady_of_eq (by rfl)) (raised.trans ?_))
  unfold riseEffect
  split
  · exact Steady.settled (linkSame_endRun _ _).steady
  · exact steady_of_eq rfl

/-! ## Every such command -/

/-- The commands of the link itself, the resets and RAIL_FAIL. -/
def touchesLink : Instr → Bool
  | .powerOnReset _ _ | .backplaneReset _ _ | .cardReset _ | .railFail | .rollWindowExpiry | .frameStart | .arbitrationLost | .frameVoid
  | .release _ _ | .withdraw _ | .leave _ _ | .state _ _ _ | .roll _ _ | .mark _ _ _ | .wait _ _ | .claim _ _ _ => true
  | _ => false

/-- Every other command leaves the link and its tables steady. -/
theorem steady_exec {c : Instr} {s t : State} (hc : touchesLink c = false) (he : exec c s = .next t) : Steady s t := by
  cases c with
  | powerOnReset | backplaneReset | cardReset | railFail | rollWindowExpiry | frameStart | arbitrationLost | frameVoid | release | withdraw
  | leave | state | roll | mark | wait | claim => cases hc
  | windowWrite offset v => exact (onlyCwc_windowWrite he).linkSame.steady
  | postFirstByte | attentionFirstByte | attentionAcknowledge | railFailRelease =>
    obtain rfl := Host.Outcome.next.inj he
    exact steady_of_eq rfl
  | post v => obtain rfl := Host.Outcome.next.inj he; exact (onlyCwc_takePost _ s).linkSame.steady
  | setProfile | defineStep | deleteSteps | setStopOption | siteRestore | clearResults | rewindLog =>
    obtain rfl := Host.Outcome.next.inj he
    exact steady_serve_respond fun _ _ => steady_of_eq rfl
  | run => obtain rfl := Host.Outcome.next.inj he; exact steady_serve fun b x => steady_guarded (steady_startRun b x)
  | readStatus | readResult | readPeers =>
    obtain rfl := Host.Outcome.next.inj he
    exact steady_serve fun b x => steady_respondWith b .ok _ x
  | readSite | readBadBlocks =>
    obtain rfl := Host.Outcome.next.inj he
    refine steady_serve fun b x => ?_
    simp only [readSiteOwner, readBadBlocksOwner]
    split
    · exact steady_respond _ _ x
    · exact steady_respondWith _ _ _ x
  | readFailLog => obtain rfl := Host.Outcome.next.inj he; exact steady_serve steady_readFailLog
  | snapshot =>
    obtain rfl := Host.Outcome.next.inj he
    refine steady_serve fun b x => ?_
    unfold snapshotOwner
    split
    · exact steady_respond _ _ x
    · exact .trans (t := setLatch _ x) (steady_of_eq (by rfl)) (steady_respond _ _ _)
  | readSnapshot =>
    obtain rfl := Host.Outcome.next.inj he
    refine steady_serve fun b x => ?_
    unfold readSnapshotOwner
    split
    · exact .trans (t := setLatch none x) (steady_of_eq (by rfl)) (steady_respondWith _ _ _ _)
    · exact steady_respondWith _ _ _ x
  | pause => obtain rfl := Host.Outcome.next.inj he; exact steady_serve fun b x => steady_guarded (steady_acceptPause b x)
  | resume => obtain rfl := Host.Outcome.next.inj he; exact steady_serve steady_resumeOwner
  | abort => obtain rfl := Host.Outcome.next.inj he; exact steady_serve steady_abortOwner
  | raiseAlert | clearAlert =>
    obtain rfl := Host.Outcome.next.inj he
    exact steady_serve fun b x => .trans (steady_of_eq (by rfl)) (steady_respond b .ok _)
  | contact mask => obtain rfl := Host.Outcome.next.inj he; exact steady_takeContact mask s
  | accept => obtain rfl := Host.Outcome.next.inj he; exact steady_takeAccept s
  | result es => obtain rfl := Host.Outcome.next.inj he; exact steady_takeResult es s
  | ready mask n => obtain rfl := Host.Outcome.next.inj he; exact steady_takeReady mask n s
  | alarmSiteOvercurrent i => obtain rfl := Host.Outcome.next.inj he; exact steady_takeOvercurrent i s
  | alarmHeadFault => obtain rfl := Host.Outcome.next.inj he; exact steady_takeHeadFault s
  | replyDeadline => obtain rfl := Host.Outcome.next.inj he; exact steady_passDeadline s
  | highLimitExpiry i => obtain rfl := Host.Outcome.next.inj he; exact steady_passHighLimit i s
  | dwellExpiry => obtain rfl := Host.Outcome.next.inj he; exact steady_passDwell s
  | syncTimeout => obtain rfl := Host.Outcome.next.inj he; exact steady_passSyncTimeout s
  | supplyWaitExpiry => obtain rfl := Host.Outcome.next.inj he; exact steady_passSupplyWait s
  | resumeGuardExpiry => obtain rfl := Host.Outcome.next.inj he; exact steady_passResumeGuard s
  | alertRise => obtain rfl := Host.Outcome.next.inj he; exact steady_alertRises s
  | alertFall => obtain rfl := Host.Outcome.next.inj he; exact steady_ite (.refl s) (steady_of_eq (by rfl))

end Sys2Proof.Machine
end

section
/-! The taking of a carried frame in its steps (R124): what it leaves of the link, and what it does to the sender's entry, the waiter list
and the effective budget. -/

namespace Sys2Proof.Machine

/-! ## The command that brings a frame -/

/-- A carried-frame command whose fields lie in their ranges takes its frame, and then the card settles. -/
theorem exec_frameOf {c : Instr} {x : Station} {f : Frame} (h : frameOf c = some (x, f)) (s : State) :
    exec c s = .next (settle (takeFrame x f s)) := by
  have taken : ∀ {y : Station} {fo : Option Frame}, fo.map (fun g => (y, g)) = some (x, f) →
      carried y fo s = settle (takeFrame x f s) := fun hf => by
    obtain ⟨g, rfl, hg⟩ := Option.map_eq_some_iff.mp hf
    cases hg
    rfl
  cases c with
  | release | leave | state | roll | mark | wait | claim => exact congrArg Host.Outcome.next (taken h)
  | withdraw => cases h; rfl
  | _ => cases h

/-- A frame that a command brings has its fields in their ranges (R118). -/
theorem goodFrame_of_frameOf {c : Instr} {x : Station} {f : Frame} (h : frameOf c = some (x, f)) : goodFrame f := by
  cases c with
  | release y n | wait y n | claim y n k | roll y n | state y n k =>
    obtain ⟨g, hg, e⟩ := Option.map_eq_some_iff.mp h
    obtain ⟨range, hg⟩ := Option.ite_none_right_eq_some.mp hg
    cases hg; cases e
    exact range
  | leave y g =>
    obtain ⟨g, hg, e⟩ := Option.map_eq_some_iff.mp h
    obtain ⟨_, hg⟩ := Option.dite_none_right_eq_some.mp hg
    cases hg; cases e
    trivial
  | mark y g k =>
    obtain ⟨g, hg, e⟩ := Option.map_eq_some_iff.mp h
    obtain ⟨_, hg⟩ := Option.dite_none_right_eq_some.mp hg
    obtain ⟨range, hg⟩ := Option.ite_none_right_eq_some.mp hg
    cases hg; cases e
    exact range
  | withdraw => cases h; trivial
  | _ => cases h

/-- A carried-frame command takes its frame, or its payload lies outside its ranges and nothing happens (R120, log 17). -/
theorem carried_frameOf {c : Instr} {y : Station} {fo : Option Frame} (h : frameOf c = fo.map fun f => (y, f)) (s : State) :
    carried y fo s = s ∨ ∃ f, frameOf c = some (y, f) ∧ carried y fo s = settle (takeFrame y f s) := by
  cases fo with
  | none => exact .inl rfl
  | some f => exact .inr ⟨f, h, rfl⟩

/-! ## The parts of a carried frame, and the link -/

theorem linkSteady_ite {c : Prop} [Decidable c] {s t u : State} (ht : LinkSteady s t) (hu : LinkSteady s u) :
    LinkSteady s (if c then t else u) := by
  split
  · exact ht
  · exact hu

theorem steady_evaluateClaim (s : State) : Steady s (evaluateClaim s) := (railMoves_evaluateClaim s).steady

theorem steady_budgetLowered (s : State) : Steady s (budgetLowered s) := by
  unfold budgetLowered
  split
  · exact steady_ite ((steady_ite (linkSame_endRun _ s).steady (.refl s)).trans (steady_evaluateClaim _)) (.refl s)
  · exact .refl s

theorem linkSteady_takePresence (x : Station) (f : Frame) (s : State) : LinkSteady s (takePresence x f s) := by
  unfold takePresence
  dsimp only
  split
  · exact linkSteady_ite (.trans (linkSteady_of_eq (by rfl)) (steady_budgetLowered _).toLinkSteady) (linkSteady_of_eq (by rfl))
  · exact linkSteady_of_eq rfl

theorem linkSteady_applyFrame (x : Station) (f : Frame) (s : State) : LinkSteady s (applyFrame x f s) := by
  cases f <;> exact linkSteady_of_eq rfl

theorem linkSteady_takeEntry (x : Station) (f : Frame) (s : State) : LinkSteady s (takeEntry x f s) := by
  have applied := linkSteady_applyFrame x f s
  have ruled := linkSteady_ite (c := (f.kind.isRail && x != (applyFrame x f s).link.own) = true)
    (applied.trans (steady_evaluateClaim _).toLinkSteady) applied
  exact linkSteady_ite (ruled.trans (steady_evaluateSync _).toLinkSteady) ruled

/-- The own number stands through the first step of a carried frame. -/
theorem takePresence_own (x : Station) (f : Frame) (s : State) : (takePresence x f s).link.own = s.link.own := by
  unfold takePresence takeBudget
  dsimp only
  split
  · split
    · exact (steady_budgetLowered _).own
    · rfl
  · rfl

/-- A frame that this station sent, or of another number, does not silence the link. -/
theorem takeSteps_unsilenced {x : Station} {sent : Bool} {s : State} (h : x ≠ s.link.own ∨ sent = true) (f : Frame) :
    takeSteps x f sent s = takeEntry x f (takePresence x f s) := by
  unfold takeSteps
  dsimp only
  rw [takePresence_own, if_neg]
  rintro ⟨own, unsent⟩
  rcases h with other | rfl
  · exact other own
  · cases unsent

/-- A frame with the own number that this station did not send silences the link (R125). -/
theorem takeSteps_silenced {x : Station} {s : State} (h : x = s.link.own) (f : Frame) :
    takeSteps x f false s = takeEntry x f (goMute (takePresence x f s)) := by
  unfold takeSteps
  dsimp only
  rw [takePresence_own, if_pos ⟨h, rfl⟩]

/-- The link gone MUTE, before the run is ended: nothing pending, nothing on the line, no roll window (R127). -/
def muted (s : State) : State :=
  { s with
    link := { s.link with st := .mute, out := Outgoing.empty, attempt := none, rollWindow := none }
    rail := s.rail.muted }

theorem goMute_sends {s : State} (h : linkSends s = true) : goMute s = endRun .linkMute (muted s) := if_pos h

theorem goMute_silent {s : State} (h : linkSends s = false) : goMute s = s := if_neg (Bool.eq_false_iff.mp h)

/-! ## The own frame carried -/

/-- The link once its attempt has been carried and the roll window opened, with the Sync Unit's note of an own MARK. -/
def carriedAttempt (a : Attempt) (f : Frame) (s : State) : State := ownMarkCarried f (openRollWindow f (attemptCarried a s))

theorem ownCarried_eq (a : Attempt) (f : Frame) (s : State) :
    ownCarried a f s = giveUpSteps (evaluateClaim (railStateCarried f.kind (carriedAttempt a f s))) := rfl

/-- What the carrying of an attempt does: the line is free and the objection count 0, its frame is out of the set unless it was replaced,
and the own ROLL opens the roll window of a link that is ROLLING (R121, R122, R126). -/
theorem carriedAttempt_eq (a : Attempt) (f : Frame) (s : State) : carriedAttempt a f s =
    ((s.withLink { s.link with
        out := if a.replaced then s.link.out else s.link.out.remove a.frame.kind
        attempt := none, objections := 0
        rollWindow := if f.kind = .roll ∧ s.link.st = .rolling then some Config.rollWindow else s.link.rollWindow }).withSync
      (carriedAttempt a f s).sync) := by
  have noted : ∀ u : State, ownMarkCarried f u = u.withSync (ownMarkCarried f u).sync := fun u => by
    unfold ownMarkCarried
    split
    · split <;> rfl
    · rfl
  unfold carriedAttempt
  rw [noted]
  unfold openRollWindow
  by_cases h : f.kind = .roll ∧ s.link.st = .rolling
  · rw [if_pos h, if_pos (show f.kind = .roll ∧ (attemptCarried a s).link.st = .rolling from h)]; rfl
  · rw [if_neg h, if_neg (show ¬ (f.kind = .roll ∧ (attemptCarried a s).link.st = .rolling) from h)]; rfl

/-- The rail state that an own frame carried gives (R141). -/
def railAfter : FrameKind → RailState → RailState
  | .wait, .none => .waiting
  | .claim, _ => .holding
  | .release, .holding => .none
  | .withdraw, .waiting => .none
  | _, r => r

/-- The Rail Share Unit told of an own frame: its rail state moves by the table, and a CLAIM carried leaves nothing to seek or to claim
(R141, R146). -/
theorem railStateCarried_fields (k : FrameKind) (s : State) : TablesKept s (railStateCarried k s)
    ∧ (railStateCarried k s).rail.st = railAfter k s.rail.st ∧ (railStateCarried k s).link.st = s.link.st
    ∧ (railStateCarried k s).link.objections = s.link.objections ∧ (railStateCarried k s).link.attempt = s.link.attempt
    ∧ (railStateCarried k s).link.rollWindow = s.link.rollWindow
    ∧ (railStateCarried k s).link.out.state = s.link.out.state ∧ (railStateCarried k s).link.out.mark = s.link.out.mark := by
  unfold railStateCarried
  cases hr : s.rail.st <;> cases k <;>
    exact ⟨⟨rfl, rfl, rfl, rfl, rfl⟩, by simp [hr, railAfter, removeFrame], rfl, rfl, rfl, rfl, rfl, rfl⟩

/-- What the Rail Share Unit goes on to do when an own frame has been carried. -/
theorem railMoves_ownCarried (a : Attempt) (f : Frame) (s : State) :
    RailMoves (railStateCarried f.kind (carriedAttempt a f s)) (ownCarried a f s) :=
  (railMoves_evaluateClaim _).trans (railMoves_giveUpSteps _)

theorem tablesKept_ownCarried (a : Attempt) (f : Frame) (s : State) : TablesKept s (ownCarried a f s) := by
  have carried : TablesKept s (carriedAttempt a f s) := by
    rw [carriedAttempt_eq]
    exact ⟨rfl, rfl, rfl, rfl, rfl⟩
  exact (carried.trans (railStateCarried_fields _ _).1).trans (railMoves_ownCarried a f s).steady.toTablesKept

/-- The link after an own frame was carried: it stands, with a free line and no objections, and the rail state has moved by the table. -/
theorem ownCarried_link (a : Attempt) (f : Frame) (s : State) : (ownCarried a f s).link.st = s.link.st
    ∧ (ownCarried a f s).link.objections = 0 ∧ (ownCarried a f s).link.attempt = none
    ∧ (ownCarried a f s).rail.st = railAfter f.kind s.rail.st := by
  obtain ⟨_, rail, st, objections, line, _⟩ := railStateCarried_fields f.kind (carriedAttempt a f s)
  have moved := (railMoves_ownCarried a f s).steady.toLinkSteady
  have link := congrArg State.link (carriedAttempt_eq a f s)
  have share : (carriedAttempt a f s).rail = s.rail := (congrArg State.rail (carriedAttempt_eq a f s)).trans rfl
  rw [link] at st objections line
  rw [share] at rail
  exact ⟨moved.st.trans st, moved.objections.trans objections, moved.line line, moved.railSt.trans rail⟩

/-! ## The sender's entry, the waiter list and the effective budget -/

/-- The sender's entry after step 1: present, with the budget that a ROLL or STATE announces (R124, R133). -/
def announced (f : Frame) (e : Peer) : Peer :=
  match f.budget? with
  | some b => { e with present := true, budget := some (clampBudget b) }
  | none => { e with present := true }

/-- The effective budget after step 1 (R133). -/
def lowered (f : Frame) (b : Nat) : Nat :=
  match f.budget? with
  | some c => min b (clampBudget c)
  | none => b

/-- The sender's entry after step 3 (R129, R131, R142, R143, R158). -/
def applied (f : Frame) (e : Peer) : Peer :=
  match f with
  | .release u => { e with held := e.held - u }
  | .withdraw => { e with need := none }
  | .leave _ => { e with group := none, lastMark := none }
  | .state h _ => { e with held := h }
  | .roll _ => { e with held := 0, need := none, group := none, lastMark := none }
  | .mark g k => { e with group := some g, lastMark := some k }
  | .wait n => { e with need := some n }
  | .claim u _ => { e with held := satAdd 1023 e.held u, need := none }

/-- The waiter list after step 3 (R143). -/
def listed (x : Station) (f : Frame) (l : List Station) : List Station :=
  match f with
  | .withdraw | .roll _ | .claim _ _ => l.filter fun y => y != x
  | .wait _ => if l.contains x then l else l ++ [x]
  | .release _ | .leave _ | .state _ _ | .mark _ _ => l

/-- What a part of a carried frame does to the tables: the sender's entry, the waiter list and the effective budget change by the functions
given, and every other entry, the own number and the own budget stand. -/
structure EntryTaken (x : Station) (entry : Peer → Peer) (list : List Station → List Station) (budget : Nat → Nat) (s t : State) :
    Prop where
  sender : t.peers[x] = entry s.peers[x]
  others : ∀ y : Station, y ≠ x → t.peers[y] = s.peers[y]
  waiters : t.rail.waiters = list s.rail.waiters
  effBudget : t.link.effBudget = budget s.link.effBudget
  own : t.link.own = s.link.own
  ownBudget : t.link.ownBudget = s.link.ownBudget

theorem EntryTaken.trans {x : Station} {e e' : Peer → Peer} {l l' : List Station → List Station} {b b' : Nat → Nat} {s t u : State}
    (h : EntryTaken x e l b s t) (h' : EntryTaken x e' l' b' t u) : EntryTaken x (e' ∘ e) (l' ∘ l) (b' ∘ b) s u :=
  ⟨h'.sender.trans (congrArg e' h.sender), fun y hy => (h'.others y hy).trans (h.others y hy), h'.waiters.trans (congrArg l' h.waiters),
    h'.effBudget.trans (congrArg b' h.effBudget), h'.own.trans h.own, h'.ownBudget.trans h.ownBudget⟩

theorem TablesKept.entry {s t : State} (h : TablesKept s t) (x : Station) : EntryTaken x id id id s t :=
  ⟨by rw [h.peers]; rfl, fun y _ => by rw [h.peers], h.waiters, h.effBudget, h.own, h.ownBudget⟩

/-- An entry updated beside a waiter list that changes by `l`. -/
theorem entryTaken_listed (x : Station) (e : Peer → Peer) (s : State) {r : Rail} {l : List Station → List Station}
    (h : r.waiters = l s.rail.waiters) : EntryTaken x e l id s (updPeer x e { s with rail := r }) :=
  ⟨(updPeer_get x x e s).trans (if_pos rfl), fun y hy => (updPeer_get x y e s).trans (if_neg hy), h, rfl, rfl, rfl⟩

theorem entryTaken_updPeer (x : Station) (e : Peer → Peer) (s : State) : EntryTaken x e id id s (updPeer x e s) :=
  entryTaken_listed x e s rfl

theorem entryTaken_takeBudget (x : Station) (b : Nat) (s : State) :
    EntryTaken x (fun e => { e with budget := some (clampBudget b) }) id (fun c => min c (clampBudget b)) s (takeBudget x b s) := by
  have entry := entryTaken_updPeer x (fun e => { e with budget := some (clampBudget b) }) s
  unfold takeBudget
  dsimp only
  split
  next lower =>
    have kept := (steady_budgetLowered { updPeer x (fun e => { e with budget := some (clampBudget b) }) s with
      link := { s.link with effBudget := clampBudget b } }).toTablesKept
    exact ⟨(congrArg (·[x]) kept.peers).trans entry.sender, fun y hy => (congrArg (·[y]) kept.peers).trans (entry.others y hy),
      kept.waiters, kept.effBudget.trans (Nat.min_eq_right (Nat.le_of_lt lower)).symm, kept.own, kept.ownBudget⟩
  next higher => exact ⟨entry.sender, entry.others, rfl, (Nat.min_eq_left (Nat.le_of_not_lt higher)).symm, rfl, rfl⟩

theorem entryTaken_takePresence (x : Station) (f : Frame) (s : State) :
    EntryTaken x (announced f) id (lowered f) s (takePresence x f s) := by
  have present := entryTaken_updPeer x (fun e => { e with present := true }) s
  cases f with
  | state _ b | roll b => exact present.trans (entryTaken_takeBudget x b _)
  | release | withdraw | leave | mark | wait | claim => exact present

theorem entryTaken_dropWaiter (x : Station) (s : State) :
    EntryTaken x (fun e => { e with need := none }) (fun l => l.filter fun y => y != x) id s (dropWaiter x s) :=
  entryTaken_listed x _ s rfl

theorem entryTaken_applyFrame (x : Station) (f : Frame) (s : State) : EntryTaken x (applied f) (listed x f) id s (applyFrame x f s) := by
  have entry : ∀ e, EntryTaken x e id id s (updPeer x e s) := fun e => entryTaken_updPeer x e s
  have dropped : ∀ e, EntryTaken x (e ∘ fun p => { p with need := none }) (fun l => l.filter fun y => y != x) id s
      (updPeer x e (dropWaiter x s)) := fun e => (entryTaken_dropWaiter x s).trans (entryTaken_updPeer x e _)
  cases f with
  | release | leave | state | mark => exact entry _
  | withdraw => exact entryTaken_dropWaiter x s
  | roll => exact dropped fun e => { e with held := 0, group := none, lastMark := none }
  | claim u => exact dropped fun e => { e with held := satAdd 1023 e.held u }
  | wait n => exact entryTaken_listed x (fun e => { e with need := some n }) s rfl

theorem entryTaken_takeEntry (x : Station) (f : Frame) (s : State) : EntryTaken x (applied f) (listed x f) id s (takeEntry x f s) := by
  have evaluated : ∀ u, TablesKept u (if (f.kind.isRail && x != u.link.own) = true then evaluateClaim u else u) := fun u =>
    (steady_ite (steady_evaluateClaim u) (.refl u)).toTablesKept
  have sync : ∀ u, TablesKept u (if f.kind.isSync = true then evaluateSync u else u) := fun u =>
    (steady_ite (steady_evaluateSync u) (.refl u)).toTablesKept
  exact (entryTaken_applyFrame x f s).trans (((evaluated _).trans (sync _)).entry x)

theorem tablesKept_goMute (s : State) : TablesKept s (goMute s) := by
  cases h : linkSends s with
  | true =>
    rw [goMute_sends h]
    exact .trans (t := muted s) ⟨rfl, rfl, rfl, rfl, rfl⟩ (linkSame_endRun _ _).steady.toTablesKept
  | false => rw [goMute_silent h]; exact .refl s

theorem entryTaken_takeSteps (x : Station) (f : Frame) (sent : Bool) (s : State) :
    EntryTaken x (applied f ∘ announced f) (listed x f) (lowered f) s (takeSteps x f sent s) := by
  have silenced : ∀ (c : Prop) [Decidable c] u, TablesKept u (if c then goMute u else u) := fun c _ u => by
    split
    · exact tablesKept_goMute u
    · exact .refl u
  exact ((entryTaken_takePresence x f s).trans ((silenced _ _).entry x)).trans (entryTaken_takeEntry x f _)

theorem railMoves_loseAttempt {s : State} {a : Attempt} (h : s.link.attempt = some a) :
    RailMoves (s.withLink { s.link with attempt := none }) (loseAttempt s) := by
  unfold loseAttempt
  rw [h]
  exact railMoves_attemptFailed _ _

/-- A lost attempt leaves the line; every table and the link's standing stay (R122). -/
theorem steady_loseAttempt (s : State) : Steady s (loseAttempt s) ∧ (loseAttempt s).link.attempt = none := by
  cases h : s.link.attempt with
  | none => unfold loseAttempt; rw [h]; exact ⟨.refl s, h⟩
  | some a =>
    have moved := (railMoves_loseAttempt h).steady
    have off : Steady s (s.withLink { s.link with attempt := none }) :=
      ⟨⟨rfl, rfl, rfl, rfl, rfl⟩, ⟨rfl, rfl, rfl, fun _ => rfl, fun _ _ => id, fun _ => id⟩⟩
    exact ⟨off.trans moved, moved.line rfl⟩

theorem steady_answerRoll (s : State) : Steady s (answerRoll s) := by
  unfold answerRoll
  dsimp only
  split <;> split
  · exact ((steady_handFrame _ s).trans (steady_handFrame _ _)).trans (steady_handFrame _ _)
  · exact (steady_handFrame _ s).trans (steady_handFrame _ _)
  · exact (steady_handFrame _ s).trans (steady_handFrame _ _)
  · exact steady_handFrame _ s

/-- A carried frame taken by a link that hears: the sender's entry, the waiter list and the effective budget, and nothing else of the tables
(R124, R129, R131, R133, R142, R143, R158). -/
theorem entryTaken_takeFrame {x : Station} {s : State} (hears : linkHears s = true) (f : Frame) :
    EntryTaken x (applied f ∘ announced f) (listed x f) (lowered f) s (takeFrame x f s) := by
  unfold takeFrame
  rw [if_pos hears]
  split
  next a _ => exact (entryTaken_takeSteps x f true s).trans ((tablesKept_ownCarried a f _).entry x)
  · have taken := ((steady_loseAttempt s).1.toTablesKept.entry x).trans (entryTaken_takeSteps x f false _)
    dsimp only
    split
    · exact taken.trans ((steady_answerRoll _).toTablesKept.entry x)
    · exact taken

theorem takeFrame_deaf {x : Station} {f : Frame} {s : State} (h : linkHears s = false) : takeFrame x f s = s :=
  if_neg (Bool.eq_false_iff.mp h)

end Sys2Proof.Machine
end

section
/-! The invariants of the link and its tables: what a step does, by the few operations that leave the link not steady. -/

namespace Sys2Proof.Machine

/-! ## The steps by the operations that move the link -/

/-- What makes a statement about the link and its tables an invariant: it stands while the link is steady, and the operations that move the
link keep it. -/
structure LinkRule (P : State → Prop) : Prop where
  steady : ∀ {s t : State}, Steady s t → P s → P t
  reset : ∀ (straps : Straps) (lines : Lines) (s : State), P (resetCard straps lines s)
  cardReset : ∀ (straps : Straps) (s : State), P (resetBlocks straps s)
  halt : ∀ {s : State}, P s → P (haltCard s)
  window : ∀ {s : State}, P s →
    P { s with link := { s.link with rollWindow := none, st := if s.link.st = .rolling then .up else s.link.st } }
  start : ∀ {s : State}, P s → P (startFrame s)
  void : ∀ {s : State}, P s → P (voidAttempt s)
  frame : ∀ {x : Station} {f : Frame} {s : State}, goodFrame f → P s → P (takeFrame x f s)

theorem LinkRule.settled {P : State → Prop} (rule : LinkRule P) {s : State} (h : P s) : P (settle s) := rule.steady (steady_settle s) h

theorem LinkRule.exec {P : State → Prop} (rule : LinkRule P) {c : Instr} {s t : State} (he : exec c s = .next t) (h : P s) : P t := by
  have frame : ∀ (x : Station) (fo : Option Frame), frameOf c = fo.map (fun f => (x, f)) → P (carried x fo s) := fun x fo hc => by
    rcases carried_frameOf hc s with same | ⟨f, hf, taken⟩
    · rw [same]; exact h
    · rw [taken]; exact rule.settled (rule.frame (goodFrame_of_frameOf hf) h)
  cases hc : touchesLink c with
  | false => exact rule.steady (steady_exec hc he) h
  | true =>
    cases c with
    | powerOnReset | backplaneReset => obtain rfl := Host.Outcome.next.inj he; exact rule.reset _ _ s
    | cardReset straps =>
      obtain rfl := Host.Outcome.next.inj he
      rcases serve_cases .cardReset (cardResetOwner straps) s with hs | ⟨b, s0, ht, _, ⟨r, _, hs⟩ | ⟨_, hs⟩⟩
      · rw [hs]; exact h
      · rw [hs]; exact rule.steady ((steady_takeBlock ht).trans (steady_respond b r s0)) h
      · rw [hs, cardReset_eq]
        exact rule.steady (steady_of_eq (by rfl)) (rule.cardReset straps (endRunForReset s0))
    | railFail =>
      obtain rfl := Host.Outcome.next.inj he
      have level : P { s with alert := { s.alert with railFail := true } } := rule.steady (steady_of_eq (by rfl)) h
      unfold railFails
      dsimp only
      split
      · exact level
      · exact rule.halt level
    | rollWindowExpiry =>
      obtain rfl := Host.Outcome.next.inj he
      unfold passRollWindow
      split
      · exact h
      next r _ => exact rule.settled (rule.window (s := elapse r s) (rule.steady (steady_of_eq (by rfl)) h))
    | frameStart => obtain rfl := Host.Outcome.next.inj he; exact rule.start h
    | arbitrationLost => obtain rfl := Host.Outcome.next.inj he; exact rule.settled (rule.steady (steady_loseAttempt s).1 h)
    | frameVoid => obtain rfl := Host.Outcome.next.inj he; exact rule.settled (rule.void h)
    | release | withdraw | leave | state | roll | mark | wait | claim => obtain rfl := Host.Outcome.next.inj he; exact frame _ _ rfl
    | _ => cases hc

theorem LinkRule.step {P : State → Prop} (rule : LinkRule P) {s t : State} (h : P s) (hst : step s = .next t) : P t := by
  unfold Machine.step at hst
  split at hst
  · obtain rfl := Host.Outcome.next.inj hst
    exact rule.steady (steady_of_eq (by rfl)) h
  · exact rule.exec hst (rule.steady (steady_of_eq (by rfl)) h)

/-! ## An objection drawn -/

/-- The attempt on the line over, with one objection more (R122). -/
def objected (s : State) : State :=
  s.withLink { s.link with attempt := none, objections := min (s.link.objections + 1) Config.objectionLimit }

theorem voidAttempt_free {s : State} (h : s.link.attempt = none) : voidAttempt s = s := by
  unfold voidAttempt
  rw [h]

/-- Up to the seventh objection the owner is told that its attempt failed (R122). -/
theorem voidAttempt_few {s : State} {a : Attempt} (h : s.link.attempt = some a) (few : s.link.objections < 7) :
    voidAttempt s = attemptFailed a.frame.kind (objected s) := by
  unfold voidAttempt
  rw [h]
  exact if_neg (show ¬ 8 ≤ s.link.objections + 1 by omega)

/-- The eighth objection in a row silences the link (R123). -/
theorem voidAttempt_eighth {s : State} {a : Attempt} (h : s.link.attempt = some a) (many : 7 ≤ s.link.objections) :
    voidAttempt s = goMute (objected s) := by
  unfold voidAttempt
  rw [h]
  exact if_pos (Nat.succ_le_succ many)

/-! ## The ranges of the tables -/

theorem TablesKept.inRange {s t : State} (h : TablesKept s t) (hs : TablesInRange s) : TablesInRange t := by
  unfold TablesInRange
  rw [h.peers, h.waiters, h.effBudget, h.ownBudget]
  exact hs

theorem clampBudget_range {b : Nat} (h : b ≤ 1023) : 8 ≤ clampBudget b ∧ clampBudget b ≤ 1023 :=
  ⟨Nat.le_max_left _ _, Nat.max_le.mpr ⟨by decide, h⟩⟩

/-- A budget that a good frame carries lies in the range of R118. -/
theorem budget_of_goodFrame {f : Frame} (h : goodFrame f) {b : Nat} (hb : f.budget? = some b) : b ≤ 1023 := by
  cases f with
  | state _ c => cases hb; exact h.2
  | roll c => cases hb; exact h
  | release | withdraw | leave | mark | wait | claim => cases hb

theorem lowered_range {f : Frame} (h : goodFrame f) {b own : Nat} (low : 8 ≤ b) (high : b ≤ own) :
    8 ≤ lowered f b ∧ lowered f b ≤ own := by
  unfold lowered
  split
  next c hc => exact ⟨le_min low (clampBudget_range (budget_of_goodFrame h hc)).1, min_le_of_left_le high⟩
  · exact ⟨low, high⟩

/-- The entry of a station whose good frame was carried is present and in its ranges. -/
theorem goodPeer_taken {f : Frame} (h : goodFrame f) {e : Peer} (he : goodPeer e) : goodPeer (applied f (announced f e)) := by
  obtain ⟨held, need, budget, mark, group, _⟩ := he
  cases f with
  | release u => exact ⟨(Nat.sub_le _ _).trans held, need, budget, mark, group, nofun⟩
  | withdraw => exact ⟨held, nofun, budget, mark, group, nofun⟩
  | leave => exact ⟨held, need, budget, nofun, rfl, nofun⟩
  | state u b => exact ⟨h.1, need, fun c hc => by cases hc; exact clampBudget_range h.2, mark, group, nofun⟩
  | roll b => exact ⟨Nat.zero_le _, nofun, fun c hc => by cases hc; exact clampBudget_range h, nofun, rfl, nofun⟩
  | mark g k => exact ⟨held, need, budget, fun m hm => by cases hm; exact h, rfl, nofun⟩
  | wait n => exact ⟨held, fun m hm => by cases hm; exact h, budget, mark, group, nofun⟩
  | claim u k => exact ⟨satAdd_le _ _ _, nofun, budget, mark, group, nofun⟩

theorem nodup_listed (x : Station) (f : Frame) {l : List Station} (h : l.Nodup) : (listed x f l).Nodup := by
  cases f with
  | withdraw | roll | claim => exact h.filter _
  | release | leave | state | mark => exact h
  | wait n =>
    unfold listed
    dsimp only
    split
    · exact h
    next absent =>
      rw [List.contains_iff_mem] at absent
      exact List.nodup_append.mpr ⟨h, List.nodup_singleton x, fun a ha b hb => by
        rw [List.mem_singleton.mp hb]
        rintro rfl
        exact absent ha⟩

/-- Another station stays listed or unlisted (R143). -/
theorem mem_listed_other {x y : Station} (h : y ≠ x) (f : Frame) (l : List Station) : y ∈ listed x f l ↔ y ∈ l := by
  cases f with
  | withdraw | roll | claim => exact List.mem_filter.trans (and_iff_left (bne_iff_ne.mpr h))
  | release | leave | state | mark => exact Iff.rfl
  | wait n =>
    unfold listed
    dsimp only
    split
    · exact Iff.rfl
    · simp [h]

/-- The sender is listed after its frame exactly while its entry has a need, if it was so before (R136, R143). -/
theorem mem_listed_sender {x : Station} {f : Frame} {l : List Station} {e : Peer} (h : x ∈ l ↔ e.need.isSome = true) :
    x ∈ listed x f l ↔ (applied f (announced f e)).need.isSome = true := by
  have dropped : x ∉ l.filter fun y => y != x := fun hx => bne_iff_ne.mp (List.mem_filter.mp hx).2 rfl
  cases f with
  | withdraw | roll | claim => exact iff_of_false dropped Bool.false_ne_true
  | release | leave | state | mark => exact h
  | wait n =>
    refine iff_of_true ?_ rfl
    unfold listed
    dsimp only
    split
    next present => exact List.contains_iff_mem.mp present
    · simp

theorem tablesInRange_takeFrame {x : Station} {f : Frame} {s : State} (hf : goodFrame f) (h : TablesInRange s) :
    TablesInRange (takeFrame x f s) := by
  cases hears : linkHears s with
  | false => rw [takeFrame_deaf hears]; exact h
  | true =>
    obtain ⟨peers, nodup, waits, low, high, own⟩ := h
    have taken := entryTaken_takeFrame (x := x) hears f
    obtain ⟨low', high'⟩ := lowered_range hf low high
    refine ⟨fun y => ?_, ?_, fun y => ?_, ?_, ?_, ?_⟩
    · by_cases hy : y = x
      · rw [hy, taken.sender]; exact goodPeer_taken hf (peers x)
      · rw [taken.others y hy]; exact peers y
    · rw [taken.waiters]; exact nodup_listed x f nodup
    · rw [taken.waiters]
      by_cases hy : y = x
      · rw [hy, taken.sender]; exact mem_listed_sender (waits x)
      · rw [taken.others y hy]; exact (mem_listed_other hy f _).trans (waits y)
    · rw [taken.effBudget]; exact low'
    · rw [taken.effBudget, taken.ownBudget]; exact high'
    · rw [taken.ownBudget]; exact own

/-- The tables of a card that has just been reset are in their ranges, the own entry alone present (R134, R137). -/
theorem tablesInRange_of_reset {straps : Straps} {s : State} (hp : s.peers = peersReset straps) (hw : s.rail.waiters = [])
    (he : s.link.effBudget = clampBudget straps.budget.toNat) (ho : s.link.ownBudget = clampBudget straps.budget.toNat) :
    TablesInRange s := by
  obtain ⟨low, high⟩ := clampBudget_range (Nat.le_of_lt_succ straps.budget.isLt)
  have entry : ∀ x : Station, goodPeer (peersReset straps)[x] ∧ (peersReset straps)[x].need = none := fun x => by
    rw [peersReset_get]
    split
    · exact ⟨⟨Nat.zero_le _, nofun, fun b hb => by cases hb; exact ⟨low, high⟩, nofun, rfl, nofun⟩, rfl⟩
    · exact ⟨⟨Nat.zero_le _, nofun, nofun, nofun, rfl, fun _ => rfl⟩, rfl⟩
  unfold TablesInRange
  rw [hp, hw, he, ho]
  refine ⟨fun x => (entry x).1, List.nodup_nil, fun x => ?_, low, le_rfl, high⟩
  rw [(entry x).2]
  exact iff_of_false List.not_mem_nil Bool.false_ne_true

theorem tablesInRange_haltCard {s : State} (h : TablesInRange s) : TablesInRange (haltCard s) := by
  obtain ⟨peers, _, _, budgets⟩ := h
  obtain ⟨_, link, table, rail, _⟩ := haltCard_others s
  unfold TablesInRange
  rw [link, table, rail]
  refine ⟨fun x => ?_, List.nodup_nil, fun x => ?_, budgets⟩
  · rw [haltPeers_get]
    obtain ⟨_, _, budget, mark, group, absent⟩ := peers x
    exact ⟨Nat.zero_le _, nofun, budget, mark, group, fun hp => by rw [absent hp]; rfl⟩
  · rw [haltPeers_get]
    exact iff_of_false List.not_mem_nil Bool.false_ne_true

theorem tablesKept_startFrame (s : State) : TablesKept s (startFrame s) := by
  unfold startFrame
  split <;> exact ⟨rfl, rfl, rfl, rfl, rfl⟩

theorem tablesKept_voidAttempt (s : State) : TablesKept s (voidAttempt s) := by
  have drawn : TablesKept s (objected s) := ⟨rfl, rfl, rfl, rfl, rfl⟩
  cases line : s.link.attempt with
  | none => rw [voidAttempt_free line]; exact .refl s
  | some a =>
    by_cases few : s.link.objections < 7
    · rw [voidAttempt_few line few]
      exact drawn.trans (railMoves_attemptFailed _ _).steady.toTablesKept
    · rw [voidAttempt_eighth line (Nat.le_of_not_lt few)]
      exact drawn.trans (tablesKept_goMute _)

theorem linkRule_tablesInRange : LinkRule TablesInRange where
  steady h := h.toTablesKept.inRange
  reset straps lines s := by
    rw [resetCard_eq]
    exact tablesInRange_of_reset rfl rfl rfl rfl
  cardReset straps s := tablesInRange_of_reset (straps := straps) rfl rfl rfl rfl
  halt := tablesInRange_haltCard
  window := id
  start := (tablesKept_startFrame _).inRange
  void := (tablesKept_voidAttempt _).inRange
  frame := tablesInRange_takeFrame

/-- Settles O54: only a carried frame, a halt and a reset change the tables, and each keeps the entry it changes, the waiter list and the
effective budget in their ranges. -/
theorem tablesStayInRange : Obligations.TablesStayInRange := by
  unfold Obligations.TablesStayInRange
  intro s t
  exact linkRule_tablesInRange.step

/-! ## A silent link -/

theorem silentWhenMute_of_sends {s : State} (sends : linkSends s = true) (few : s.link.objections ≤ 7) : SilentWhenMute s :=
  ⟨fun mute => absurd (mute.symm.trans sends) Bool.false_ne_true, by omega, fun eight => by omega⟩

theorem LinkSteady.silentWhenMute {s t : State} (h : LinkSteady s t) (hs : SilentWhenMute s) : SilentWhenMute t := by
  obtain ⟨silent, most, eight⟩ := hs
  have sends := linkSends_congr h.st
  refine ⟨fun mute => ?_, h.objections.trans_le most, fun all => ?_⟩
  · obtain ⟨out, line⟩ := silent (sends.symm.trans mute)
    exact ⟨h.silent (sends.symm.trans mute) out, h.line line⟩
  · exact sends.trans (eight (h.objections.symm.trans all))

/-- A link gone MUTE, or that was silent already, is silent (R127). -/
theorem silentWhenMute_goMute {s : State} (silent : linkSends s = false → s.link.out = Outgoing.empty ∧ s.link.attempt = none)
    (most : s.link.objections ≤ 8) : SilentWhenMute (goMute s) := by
  cases h : linkSends s with
  | true =>
    have quiet : SilentWhenMute (muted s) := ⟨fun _ => ⟨rfl, rfl⟩, most, fun _ => rfl⟩
    rw [goMute_sends h]
    exact (linkSame_endRun _ _).steady.toLinkSteady.silentWhenMute quiet
  | false =>
    rw [goMute_silent h]
    exact ⟨silent, most, fun _ => h⟩

theorem silentWhenMute_takeSteps (x : Station) (f : Frame) (sent : Bool) {s : State} (h : SilentWhenMute s) :
    SilentWhenMute (takeSteps x f sent s) := by
  have present := (linkSteady_takePresence x f s).silentWhenMute h
  refine (linkSteady_takeEntry x f _).silentWhenMute ?_
  split
  · exact silentWhenMute_goMute present.1 present.2.1
  · exact present

/-- A link with an attempt on the line sends, if it is silent while it does not. -/
theorem sends_of_attempt {s : State} (h : SilentWhenMute s) {a : Attempt} (ha : s.link.attempt = some a) : linkSends s = true := by
  refine Bool.eq_true_of_not_eq_false fun mute => ?_
  have line := (h.1 mute).2
  rw [ha] at line
  cases line

theorem ownAttempt_some {x : Station} {f : Frame} {s : State} {a : Attempt} (h : ownAttempt x f s = some a) :
    s.link.attempt = some a ∧ x = s.link.own ∧ a.frame = f := by
  unfold ownAttempt at h
  split at h
  next b line =>
    obtain ⟨⟨own, frame⟩, hb⟩ := Option.ite_none_right_eq_some.mp h
    cases hb
    exact ⟨line, own, frame⟩
  · cases h

theorem silentWhenMute_takeFrame {x : Station} {f : Frame} {s : State} (h : SilentWhenMute s) : SilentWhenMute (takeFrame x f s) := by
  cases hears : linkHears s with
  | false => rw [takeFrame_deaf hears]; exact h
  | true =>
    unfold takeFrame
    rw [if_pos hears]
    split
    next a ha =>
      obtain ⟨line, _⟩ := ownAttempt_some ha
      have taken : LinkSteady s (takeSteps x f true s) := by
        rw [takeSteps_unsilenced (.inr rfl)]
        exact (linkSteady_takePresence x f s).trans (linkSteady_takeEntry x f _)
      obtain ⟨st, objections, _⟩ := ownCarried_link a f (takeSteps x f true s)
      exact silentWhenMute_of_sends ((linkSends_congr (st.trans taken.st)).trans (sends_of_attempt h line)) (by omega)
    · have taken := silentWhenMute_takeSteps x f false ((steady_loseAttempt s).1.toLinkSteady.silentWhenMute h)
      dsimp only
      split
      · exact (steady_answerRoll _).toLinkSteady.silentWhenMute taken
      · exact taken

theorem silentWhenMute_voidAttempt {s : State} (h : SilentWhenMute s) : SilentWhenMute (voidAttempt s) := by
  cases line : s.link.attempt with
  | none => rw [voidAttempt_free line]; exact h
  | some a =>
    have sends : linkSends (objected s) = true := (sends_of_attempt h line :)
    by_cases few : s.link.objections < 7
    · rw [voidAttempt_few line few]
      exact (railMoves_attemptFailed _ _).steady.toLinkSteady.silentWhenMute
        (silentWhenMute_of_sends sends ((Nat.min_le_left _ _).trans few))
    · rw [voidAttempt_eighth line (Nat.le_of_not_lt few)]
      exact silentWhenMute_goMute (fun mute => absurd (mute.symm.trans sends) Bool.false_ne_true) (Nat.min_le_right _ _)

theorem silentWhenMute_startFrame {s : State} (h : SilentWhenMute s) : SilentWhenMute (startFrame s) := by
  unfold startFrame
  split
  next sends _ _ => exact ⟨fun mute => absurd (mute.symm.trans sends) Bool.false_ne_true, h.2⟩
  · exact h

theorem linkRule_silentWhenMute : LinkRule SilentWhenMute where
  steady h := h.toLinkSteady.silentWhenMute
  reset straps lines s := by
    rw [resetCard_eq]
    cases hf : lines.railFail with
    | true => exact ⟨fun _ => ⟨rfl, rfl⟩, Nat.zero_le _, nofun⟩
    | false => exact silentWhenMute_of_sends rfl (Nat.zero_le _)
  cardReset straps s := silentWhenMute_of_sends rfl (Nat.zero_le _)
  halt {s} h := by
    obtain ⟨_, link, _⟩ := haltCard_others s
    have off : (haltCard s).link = { s.link with st := .off, out := Outgoing.empty, attempt := none, rollWindow := none } := link
    unfold SilentWhenMute linkSends
    rw [off]
    exact ⟨fun _ => ⟨rfl, rfl⟩, h.2.1, fun _ => rfl⟩
  window {s} h := by
    have sends : ∀ st : LinkState, ((if st = .rolling then .up else st) == .rolling || (if st = .rolling then .up else st) == .up)
        = (st == .rolling || st == .up) := fun st => by cases st <;> rfl
    unfold SilentWhenMute linkSends
    rw [sends]
    exact h
  start := silentWhenMute_startFrame
  void := silentWhenMute_voidAttempt
  frame _ := silentWhenMute_takeFrame

/-- Settles O57: what leaves the link steady keeps a silent link silent, the link goes MUTE or OFF with nothing pending, and the eighth
objection silences it. -/
theorem silentStaysSilent : Obligations.SilentStaysSilent := by
  unfold Obligations.SilentStaysSilent
  intro s t
  exact linkRule_silentWhenMute.step

end Sys2Proof.Machine
end

section
/-! What a carried frame does to the sender's entry, the waiter list and the effective budget, kind by kind, and what it leaves (R129, R131
to R133, R142, R143, R158). -/

namespace Sys2Proof.Machine

/-- The store, the two lines and the sites' accounts stand. -/
structure CardKept (s t : State) : Prop where
  store : t.store = s.store
  alert : t.alert = s.alert
  account : ∀ i : Site, SameAccount s.sites[i] t.sites[i]

theorem CardKept.trans {s t u : State} (h : CardKept s t) (h' : CardKept t u) : CardKept s u :=
  ⟨h'.store.trans h.store, h'.alert.trans h.alert, fun i => (h.account i).trans (h'.account i)⟩

theorem Leaves.card {s t : State} (h : Leaves s t) : CardKept s t := ⟨h.store, h.alert, h.account⟩

theorem LinkMove.card {s t : State} (h : LinkMove s t) : CardKept s t := by
  cases h with
  | link _ side =>
    obtain ⟨_, _, _, _, rfl⟩ := side
    exact ⟨rfl, rfl, fun _ => .refl _⟩
  | endRun => exact (leaves_endRun _ s).card
  | syncPassed => exact (leaves_syncPassed s).card

theorem LinkMoves.card {s t : State} (h : LinkMoves s t) : CardKept s t :=
  h.keeps (P := CardKept s) (fun _ _ move kept => kept.trans move.card) (Leaves.refl s).card

/-- A carried frame at a station that takes frames: the sender's entry, the waiter list and the effective budget, and what it leaves. -/
theorem frame_taken {c : Instr} {x : Station} {f : Frame} {s : State} (hears : linkHears s = true) (h : frameOf c = some (x, f)) :
    ∃ t, exec c s = .next t ∧ FrameLeaves x s t ∧ t.peers[x] = applied f (announced f s.peers[x])
      ∧ t.rail.waiters = listed x f s.rail.waiters ∧ t.link.effBudget = lowered f s.link.effBudget := by
  have taken := (entryTaken_takeFrame (x := x) hears f).trans ((steady_settle (takeFrame x f s)).toTablesKept.entry x)
  have card := (linkMoves_takeFrame x f s).card.trans (leaves_settle _).card
  exact ⟨_, exec_frameOf h s, ⟨taken.others, card.store, card.alert, card.account, taken.own, taken.ownBudget⟩, taken.sender,
    taken.waiters, taken.effBudget⟩

/-! ## The frames that commands bring -/

theorem frameOf_release {x : Station} {n : BitVec 16} (low : 1 ≤ n.toNat) (high : n.toNat ≤ 1023) :
    frameOf (.release x n) = some (x, .release n.toNat) := congrArg (Option.map _) (if_pos ⟨low, high⟩)

theorem frameOf_wait {x : Station} {n : BitVec 16} (low : 1 ≤ n.toNat) (high : n.toNat ≤ 1023) :
    frameOf (.wait x n) = some (x, .wait n.toNat) := congrArg (Option.map _) (if_pos ⟨low, high⟩)

theorem frameOf_claim {x : Station} {n : BitVec 16} {k : Byte} (low : 1 ≤ n.toNat) (high : n.toNat ≤ 1023) (step : k.toNat ≤ 127) :
    frameOf (.claim x n k) = some (x, .claim n.toNat k.toNat) := congrArg (Option.map _) (if_pos ⟨low, high, step⟩)

theorem frameOf_roll {x : Station} {b : BitVec 16} (h : b.toNat ≤ 1023) : frameOf (.roll x b) = some (x, .roll b.toNat) :=
  congrArg (Option.map _) (if_pos h)

theorem frameOf_state {x : Station} {h b : BitVec 12} (held : h.toNat ≤ 1023) (budget : b.toNat ≤ 1023) :
    frameOf (.state x h b) = some (x, .state h.toNat b.toNat) := congrArg (Option.map _) (if_pos ⟨held, budget⟩)

theorem group_toNat (g : Group) : (BitVec.ofNat 8 g).toNat = g := by
  rw [BitVec.toNat_ofNat]
  omega

theorem markFrame_group {g : Group} {m : Byte} (h : m.toNat ≤ 128) : markFrame (BitVec.ofNat 8 g) m = some (.mark g m.toNat) := by
  unfold markFrame
  rw [dif_pos ((group_toNat g).trans_lt g.isLt), if_pos h]
  simp only [group_toNat, Fin.eta]

theorem leaveFrame_group (g : Group) : leaveFrame (BitVec.ofNat 8 g) = some (.leave g) := by
  unfold leaveFrame
  rw [dif_pos ((group_toNat g).trans_lt g.isLt)]
  simp only [group_toNat, Fin.eta]

theorem frameOf_mark {x : Station} {g : Group} {m : Byte} (h : m.toNat ≤ 128) :
    frameOf (.mark x (BitVec.ofNat 8 g) m) = some (x, .mark g m.toNat) := congrArg (Option.map _) (markFrame_group h)

theorem frameOf_leave {x : Station} {g : Group} : frameOf (.leave x (BitVec.ofNat 8 g)) = some (x, .leave g) :=
  congrArg (Option.map _) (leaveFrame_group g)

/-- Settles O42: each of the four frames is taken, its entry and its waiter list read off. -/
theorem railFramesTallied : Obligations.RailFramesTallied := by
  intro x n k s hears
  refine ⟨fun low high => ?_, fun low high step => ?_, fun low high => ?_, ?_⟩
  · obtain ⟨t, taken, leaves, entry, waiters, _⟩ := frame_taken hears (frameOf_release (x := x) low high)
    exact ⟨t, taken, leaves, entry, waiters⟩
  · obtain ⟨t, taken, leaves, entry, waiters, _⟩ := frame_taken hears (frameOf_claim (x := x) low high step)
    exact ⟨t, taken, leaves, entry, waiters⟩
  · obtain ⟨t, taken, leaves, entry, waiters, _⟩ := frame_taken hears (frameOf_wait (x := x) low high)
    refine ⟨t, taken, leaves, entry, waiters.trans ?_⟩
    simp only [listed, List.contains_iff_mem]
  · obtain ⟨t, taken, leaves, entry, waiters, _⟩ := frame_taken hears (c := .withdraw x) (x := x) rfl
    exact ⟨t, taken, leaves, entry, waiters⟩

/-- Settles O43: each of the four frames is taken, its entry, its waiter list and the effective budget read off. -/
theorem entryFramesTaken : Obligations.EntryFramesTaken := by
  intro x s hears
  refine ⟨fun b hb => ?_, fun h b hh hb => ?_, fun g m hm => ?_, fun g => ?_⟩
  · obtain ⟨t, taken, leaves, entry, waiters, budget⟩ := frame_taken hears (frameOf_roll (x := x) hb)
    exact ⟨t, taken, leaves, entry, waiters, budget⟩
  · obtain ⟨t, taken, leaves, entry, waiters, budget⟩ := frame_taken hears (frameOf_state (x := x) hh hb)
    exact ⟨t, taken, leaves, entry, waiters, budget⟩
  · obtain ⟨t, taken, leaves, entry, waiters, budget⟩ := frame_taken hears (frameOf_mark (x := x) (g := g) hm)
    exact ⟨t, taken, leaves, entry, waiters, budget⟩
  · obtain ⟨t, taken, leaves, entry, waiters, budget⟩ := frame_taken hears (frameOf_leave (x := x) (g := g))
    exact ⟨t, taken, leaves, entry, waiters, budget⟩

end Sys2Proof.Machine
end

section
/-! The answers to a ROLL, and what of the STATE and the MARK pending the taking of a carried frame leaves (R124, R130, R147, R165). -/

namespace Sys2Proof.Machine

/-! ## The taking of a frame, by what it is to this station -/

/-- The frame that this station has on the line is taken as carried (R122, R124). -/
theorem takeFrame_carried {f : Frame} {s : State} {a : Attempt} (hears : linkHears s = true) (line : s.link.attempt = some a)
    (frame : a.frame = f) :
    takeFrame s.link.own f s = ownCarried a f (takeEntry s.link.own f (takePresence s.link.own f s)) := by
  have own : ownAttempt s.link.own f s = some a := by
    unfold ownAttempt
    rw [line]
    exact if_pos ⟨rfl, frame⟩
  unfold takeFrame
  rw [if_pos hears, own]
  exact congrArg (ownCarried a f) (takeSteps_unsilenced (.inr rfl) f)

/-- A frame that this station did not send, with its own number, silences the link (R125). -/
theorem takeFrame_silencing {f : Frame} {s : State} (hears : linkHears s = true)
    (foreign : ∀ a, s.link.attempt = some a → a.frame ≠ f) :
    takeFrame s.link.own f s = takeEntry s.link.own f (goMute (takePresence s.link.own f (loseAttempt s))) := by
  have own : (loseAttempt s).link.own = s.link.own := (steady_loseAttempt s).1.own
  have foreigner : ownAttempt s.link.own f s = none := by
    unfold ownAttempt
    split
    next a line => exact if_neg fun same => foreign a line same.2
    · rfl
  have taken : takeSteps s.link.own f false (loseAttempt s) = _ := takeSteps_silenced own.symm f
  unfold takeFrame
  rw [if_pos hears, foreigner]
  dsimp only
  rw [taken]
  exact if_neg fun roll => roll.2 (by rw [← taken, (entryTaken_takeSteps _ f false _).own, own])

/-- A frame of another station: the attempt on the line is lost to it, and a ROLL is answered (R122, R124). -/
theorem takeFrame_other {x : Station} {f : Frame} {s : State} (hears : linkHears s = true) (other : x ≠ s.link.own) :
    takeFrame x f s = if f.kind = .roll then answerRoll (takeEntry x f (takePresence x f (loseAttempt s)))
      else takeEntry x f (takePresence x f (loseAttempt s)) := by
  have own : (loseAttempt s).link.own = s.link.own := (steady_loseAttempt s).1.own
  have foreigner : ownAttempt x f s = none := by
    unfold ownAttempt
    split
    · exact if_neg fun same => other same.1
    · rfl
  have taken : takeSteps x f false (loseAttempt s) = _ := takeSteps_unsilenced (.inl (own.symm ▸ other)) f
  unfold takeFrame
  rw [if_pos hears, foreigner]
  dsimp only
  rw [taken]
  have number : (takeEntry x f (takePresence x f (loseAttempt s))).link.own = s.link.own := by
    rw [← taken, (entryTaken_takeSteps _ f false _).own, own]
  simp only [number, ne_eq, other, not_false_eq_true, and_true]

/-- A frame of another station leaves the link steady. -/
theorem linkSteady_takeFrame_other {x : Station} {f : Frame} {s : State} (hears : linkHears s = true) (other : x ≠ s.link.own) :
    LinkSteady s (takeFrame x f s) := by
  have taken := (steady_loseAttempt s).1.toLinkSteady.trans ((linkSteady_takePresence x f _).trans (linkSteady_takeEntry x f _))
  rw [takeFrame_other hears other]
  exact linkSteady_ite (taken.trans (steady_answerRoll _).toLinkSteady) taken

/-! ## The pending STATE and MARK -/

/-- The pending STATE and MARK stand, and so do the own group and the mark count. -/
structure MarksKept (s t : State) : Prop where
  state : t.link.out.state = s.link.out.state
  mark : t.link.out.mark = s.link.out.mark
  ownGroup : t.sync.ownGroup = s.sync.ownGroup
  markCount : t.sync.markCount = s.sync.markCount

theorem MarksKept.refl (s : State) : MarksKept s s := ⟨rfl, rfl, rfl, rfl⟩

theorem MarksKept.trans {s t u : State} (h : MarksKept s t) (h' : MarksKept t u) : MarksKept s u :=
  ⟨h'.state.trans h.state, h'.mark.trans h.mark, h'.ownGroup.trans h.ownGroup, h'.markCount.trans h.markCount⟩

theorem marksKept_ite {c : Prop} [Decidable c] {s t u : State} (ht : MarksKept s t) (hu : MarksKept s u) :
    MarksKept s (if c then t else u) := by
  split
  · exact ht
  · exact hu

theorem LinkSame.marks {s t : State} (h : LinkSame s t) : MarksKept s t := by
  constructor <;> simp only [h.link, h.sync]

theorem marksKept_handFrame {f : Frame} (h : f.kind.isShare = true) (s : State) : MarksKept s (handFrame f s) := by
  unfold handFrame
  split
  · cases f with
    | release | withdraw | wait | claim => exact ⟨rfl, rfl, rfl, rfl⟩
    | leave | state | roll | mark => cases h
  · exact .refl s

theorem RailMove.marks {s t : State} (h : RailMove s t) : MarksKept s t := by
  cases h with
  | hand f share => exact marksKept_handFrame share s
  | remove k own => rcases own with rfl | rfl <;> exact ⟨rfl, rfl, rfl, rfl⟩
  | rail => exact ⟨rfl, rfl, rfl, rfl⟩

theorem RailMoves.marks {s t : State} (h : RailMoves s t) : MarksKept s t := by
  induction h with
  | refl => exact .refl s
  | tail _ move ih => exact ih.trans move.marks

theorem marksKept_loseAttempt (s : State) : MarksKept s (loseAttempt s) := by
  cases line : s.link.attempt with
  | none => unfold loseAttempt; rw [line]; exact .refl s
  | some a =>
    have off : MarksKept s (s.withLink { s.link with attempt := none }) := ⟨rfl, rfl, rfl, rfl⟩
    exact off.trans (railMoves_loseAttempt line).marks

theorem marksKept_budgetLowered (s : State) : MarksKept s (budgetLowered s) := by
  unfold budgetLowered
  split
  · exact marksKept_ite ((marksKept_ite (linkSame_endRun _ s).marks (.refl s)).trans (railMoves_evaluateClaim _).marks) (.refl s)
  · exact .refl s

theorem marksKept_takeBudget (x : Station) (b : Nat) (s : State) : MarksKept s (takeBudget x b s) := by
  have entry : MarksKept s { updPeer x (fun e => { e with budget := some (clampBudget b) }) s with
    link := { s.link with effBudget := clampBudget b } } := ⟨rfl, rfl, rfl, rfl⟩
  exact marksKept_ite (entry.trans (marksKept_budgetLowered _)) ⟨rfl, rfl, rfl, rfl⟩

theorem marksKept_takePresence (x : Station) (f : Frame) (s : State) : MarksKept s (takePresence x f s) := by
  have present : MarksKept s (updPeer x (fun e => { e with present := true }) s) := ⟨rfl, rfl, rfl, rfl⟩
  cases f with
  | state _ b | roll b => exact present.trans (marksKept_takeBudget x b _)
  | release | withdraw | leave | mark | wait | claim => exact present

theorem marksKept_evaluateSync (s : State) : MarksKept s (evaluateSync s) := by
  unfold evaluateSync
  split
  · have awaited : MarksKept s { s with sync := { s.sync with awaited := none } } := ⟨rfl, rfl, rfl, rfl⟩
    exact marksKept_ite (awaited.trans (linkSame_syncPassed _).marks) (.refl s)
  · exact .refl s

theorem marksKept_takeEntry (x : Station) (f : Frame) (s : State) : MarksKept s (takeEntry x f s) := by
  have applied : MarksKept s (applyFrame x f s) := by cases f <;> exact ⟨rfl, rfl, rfl, rfl⟩
  have ruled : MarksKept s (if (f.kind.isRail && x != (applyFrame x f s).link.own) = true then evaluateClaim (applyFrame x f s)
      else applyFrame x f s) := marksKept_ite (applied.trans (railMoves_evaluateClaim _).marks) applied
  exact marksKept_ite (ruled.trans (marksKept_evaluateSync _)) ruled

/-- An own ROLL carried leaves the pending STATE and MARK. -/
theorem ownCarried_roll_marks {a : Attempt} {b : Nat} (h : a.frame = .roll b) (s : State) :
    (ownCarried a (.roll b) s).link.out.state = s.link.out.state ∧ (ownCarried a (.roll b) s).link.out.mark = s.link.out.mark := by
  obtain ⟨_, _, _, _, _, _, state, mark⟩ := railStateCarried_fields .roll (carriedAttempt a (.roll b) s)
  have moved := (railMoves_ownCarried a (.roll b) s).marks
  have link := congrArg State.link (carriedAttempt_eq a (.roll b) s)
  have out : (carriedAttempt a (.roll b) s).link.out = if a.replaced then s.link.out else s.link.out.remove .roll :=
    (congrArg Link.out link).trans (by rw [h]; rfl)
  rw [out] at state mark
  refine ⟨moved.state.trans (state.trans ?_), moved.mark.trans (mark.trans ?_)⟩ <;> split <;> rfl

/-! ## The answers -/

/-- The MARK of a member in answer to a ROLL (R165). -/
def markAnswer (s : State) : State :=
  match s.sync.ownGroup with
  | some g => handFrame (.mark g s.sync.markCount) s
  | none => s

/-- The WAIT of a WAITING station in answer to a ROLL (R147). -/
def waitAnswer (s : State) : State :=
  match s.rail.st, s.peers[s.link.own].need with
  | .waiting, some n => handFrame (.wait n) s
  | _, _ => s

theorem answerRoll_eq (s : State) : answerRoll s = waitAnswer (markAnswer (handFrame (.state 0 0) s)) := rfl

theorem markAnswer_member {s : State} {g : Group} (h : s.sync.ownGroup = some g) :
    markAnswer s = handFrame (.mark g s.sync.markCount) s := by
  unfold markAnswer
  rw [h]

theorem markAnswer_single {s : State} (h : s.sync.ownGroup = none) : markAnswer s = s := by
  unfold markAnswer
  rw [h]

theorem waitAnswer_waiting {s : State} {n : Nat} (waiting : s.rail.st = .waiting) (need : s.peers[s.link.own].need = some n) :
    waitAnswer s = handFrame (.wait n) s := by
  unfold waitAnswer
  rw [waiting, need]

theorem marksKept_waitAnswer (s : State) : MarksKept s (waitAnswer s) := by
  unfold waitAnswer
  split
  · exact marksKept_handFrame rfl s
  · exact .refl s

/-- What a member's answer leaves, and what it hands over. -/
theorem markAnswer_out {s : State} (sends : linkSends s = true) : (markAnswer s).link.out.state = s.link.out.state
    ∧ (∀ g, s.sync.ownGroup = some g → (markAnswer s).link.out.mark = some (g, s.sync.markCount))
    ∧ (s.sync.ownGroup = none → (markAnswer s).link.out.mark = s.link.out.mark) := by
  cases group : s.sync.ownGroup with
  | none =>
    rw [markAnswer_single group]
    exact ⟨rfl, nofun, fun _ => rfl⟩
  | some g =>
    rw [markAnswer_member group, handFrame_out sends]
    exact ⟨rfl, fun j hj => by cases hj; rfl, nofun⟩

theorem steady_markAnswer (s : State) : Steady s (markAnswer s) := by
  unfold markAnswer
  split
  · exact steady_handFrame _ s
  · exact .refl s

/-- What a link that sends hands over in answer to a ROLL (R130, R147, R165). -/
theorem answerRoll_out {s : State} (sends : linkSends s = true) : (answerRoll s).link.out.state = true
    ∧ (∀ g, s.sync.ownGroup = some g → (answerRoll s).link.out.mark = some (g, s.sync.markCount))
    ∧ (s.sync.ownGroup = none → (answerRoll s).link.out.mark = s.link.out.mark)
    ∧ (∀ n, s.rail.st = .waiting → s.peers[s.link.own].need = some n → (answerRoll s).link.out.wait = some n) := by
  have told : linkSends (handFrame (.state 0 0) s) = true := (linkSends_handFrame _ s).trans sends
  have out := handFrame_out (f := .state 0 0) sends
  obtain ⟨state, mark, unmarked⟩ := markAnswer_out told
  have waited := marksKept_waitAnswer (markAnswer (handFrame (.state 0 0) s))
  rw [handFrame_sync] at mark unmarked
  rw [answerRoll_eq]
  refine ⟨waited.state.trans (state.trans (congrArg Outgoing.state out)), fun g member => waited.mark.trans (mark g member),
    fun single => waited.mark.trans ((unmarked single).trans ((congrArg Outgoing.mark out).trans rfl)), fun n waiting need => ?_⟩
  have steady := (steady_handFrame (.state 0 0) s).trans (steady_markAnswer _)
  have wanted : (markAnswer (handFrame (.state 0 0) s)).peers[(markAnswer (handFrame (.state 0 0) s)).link.own].need = some n := by
    simpa only [steady.own, steady.peers] using need
  rw [waitAnswer_waiting (steady.railSt.trans waiting) wanted, handFrame_out ((linkSends_congr steady.st).trans sends)]
  rfl

theorem linkHears_of_sends {s : State} (h : linkSends s = true) : linkHears s = true := by
  unfold linkSends at h
  unfold linkHears
  cases st : s.link.st with
  | rolling | up | mute => rfl
  | off => rw [st] at h; exact absurd h Bool.false_ne_true

/-- Another station's ROLL is answered with the figures of this station as they stood (R130). -/
theorem roll_answered {x : Station} {s : State} (b : Nat) (other : x ≠ s.link.own) (sends : linkSends s = true) :
    (takeFrame x (.roll b) s).link.out.state = true
    ∧ (∀ g, s.sync.ownGroup = some g → (takeFrame x (.roll b) s).link.out.mark = some (g, s.sync.markCount))
    ∧ (s.sync.ownGroup = none → (takeFrame x (.roll b) s).link.out.mark = s.link.out.mark)
    ∧ (∀ n, s.rail.st = .waiting → s.peers[s.link.own].need = some n → (takeFrame x (.roll b) s).link.out.wait = some n) := by
  have lost := (steady_loseAttempt s).1
  have number : x ≠ (loseAttempt s).link.own := by rw [lost.own]; exact other
  have entry := entryTaken_takeSteps x (.roll b) false (loseAttempt s)
  rw [takeSteps_unsilenced (.inl number)] at entry
  rw [takeFrame_other (linkHears_of_sends sends) other, if_pos (show (Frame.roll b).kind = .roll from rfl)]
  have marks := ((marksKept_loseAttempt s).trans (marksKept_takePresence x (.roll b) _)).trans (marksKept_takeEntry x (.roll b) _)
  have steady := lost.toLinkSteady.trans ((linkSteady_takePresence x (.roll b) _).trans (linkSteady_takeEntry x (.roll b) _))
  generalize takeEntry x (.roll b) (takePresence x (.roll b) (loseAttempt s)) = u at entry marks steady ⊢
  obtain ⟨state, mark, unmarked, wait⟩ := answerRoll_out ((linkSends_congr steady.st).trans sends)
  refine ⟨state, fun g member => ?_, fun single => ?_, fun n waiting need => ?_⟩
  · rw [mark g (marks.ownGroup.trans member), marks.markCount]
  · rw [unmarked (marks.ownGroup.trans single), marks.mark]
  · refine wait n (steady.railSt.trans waiting) ?_
    have own : u.peers[s.link.own] = s.peers[s.link.own] := by rw [entry.others _ other.symm, lost.peers]
    simpa only [entry.own, lost.own, own] using need

/-- Settles O46: the answers to another station's ROLL, none to the own one, and none from a silent link. -/
theorem rollAnswered : Obligations.RollAnswered := by
  intro x b s hb
  refine ⟨fun other sends => ⟨_, exec_frameOf (frameOf_roll hb) s, roll_answered b.toNat other sends⟩, ?_,
    fun other mute silent => ?_⟩
  · rintro r rfl sends line
    have marks := (marksKept_takePresence s.link.own (.roll b.toNat) s).trans (marksKept_takeEntry s.link.own (.roll b.toNat) _)
    refine ⟨_, exec_frameOf (frameOf_roll hb) s, ?_⟩
    rw [takeFrame_carried (linkHears_of_sends sends) line rfl]
    obtain ⟨state, mark⟩ := ownCarried_roll_marks (a := { frame := .roll b.toNat, replaced := r }) rfl
      (takeEntry s.link.own (.roll b.toNat) (takePresence s.link.own (.roll b.toNat) s))
    exact ⟨state.trans marks.state, mark.trans marks.mark⟩
  · have hears : linkHears s = true := by unfold linkHears; rw [mute]; rfl
    have steady := (linkSteady_takeFrame_other (f := .roll b.toNat) hears other).trans (steady_settle _).toLinkSteady
    have discards : linkSends (settle (takeFrame x (.roll b.toNat) s)) = false := by
      unfold linkSends
      rw [steady.st, mute]
      rfl
    exact ⟨_, exec_frameOf (frameOf_roll hb) s, ((steady.silentWhenMute silent).1 discards).1⟩

end Sys2Proof.Machine
end

section
/-! A silenced link: what a link gone MUTE and the end of the run leave, through the rest of the frame and the card's own actions (R125,
R127, R154). -/

namespace Sys2Proof.Machine

/-! ## At rest behind a silenced link -/

/-- The link discards, nothing is sought or kept to be sought, and no run goes on. -/
structure Silenced (s : State) : Prop where
  mute : linkSends s = false
  seeking : s.rail.seeking = false
  kept : s.rail.kept = none
  ended : s.run.seq = .idle ∨ s.run.ending ≠ none

/-- What the HCI sends leaves the stage of the run's end. -/
theorem hciDue_over {s t : State} (h : hciDue s = some t) : t.run.seq = s.run.seq ∧ t.run.ending = s.run.ending := by
  obtain ⟨_, ⟨_, rfl⟩ | ⟨r, _, _, abandon, other⟩⟩ := hciDue_cases h
  · exact ⟨rfl, rfl⟩
  · by_cases hr : r = .abandon
    · rw [abandon hr]; exact ⟨rfl, rfl⟩
    · rw [other hr]; exact ⟨rfl, rfl⟩

theorem handAbandon_over (s : State) : (handAbandon s).run.seq = s.run.seq ∧ (handAbandon s).run.ending = s.run.ending := by
  have pumped : ∀ x : State, (hciPump x).run.seq = x.run.seq ∧ (hciPump x).run.ending = x.run.ending := fun x => by
    unfold hciPump
    cases due : hciDue x with
    | none => exact ⟨rfl, rfl⟩
    | some t => exact hciDue_over due
  unfold handAbandon handRequest
  rw [(pumped _).1, (pumped _).2]
  split <;> exact ⟨rfl, rfl⟩

theorem unitDue_over {s t : State} (h : unitDue s = some t) : t.run.seq = s.run.seq ∧ t.run.ending = s.run.ending := by
  unfold unitDue at h
  split at h
  · obtain ⟨_, h⟩ := Option.ite_none_right_eq_some.mp h
    cases h
    exact ⟨rfl, rfl⟩
  · cases h

theorem Silenced.of_same {s t : State} (h : Silenced s) (side : LinkSame s t) (seq : t.run.seq = s.run.seq)
    (ending : t.run.ending = s.run.ending) : Silenced t :=
  ⟨(linkSends_congr (by rw [side.link])).trans h.mute, by rw [side.rail]; exact h.seeking, by rw [side.rail]; exact h.kept,
    by rw [seq, ending]; exact h.ended⟩

theorem LinkSideOnly.run {s t : State} (h : LinkSideOnly s t) : t.run = s.run := by
  obtain ⟨_, _, _, _, rfl⟩ := h
  rfl

theorem giveUp_kept (s : State) : (giveUp s).rail.kept = none := by
  have rail : (giveBack (giveUpBegun s)).rail = givingUpRail s.rail := by rw [giveBack_link]; rfl
  rw [giveUp_steps]
  split
  · rfl
  · split
    · exact congrArg Rail.kept rail
    · rfl

theorem leaveGroup_rail (s : State) : (leaveGroup s).rail = s.rail := by
  unfold leaveGroup
  split
  · rfl
  · rw [handFrame_rail]; rfl

theorem Silenced.teardown {cause : EndCause} {s t : State} (hs : Silenced s) (h : teardownDue cause s = some t) : Silenced t := by
  have finished : Silenced (finishRunEnd cause s) := by
    obtain ⟨_, link, _, rail, _⟩ := finishRunEnd_others cause s
    exact ⟨(linkSends_congr (by rw [link])).trans hs.mute, by rw [rail]; exact hs.seeking, by rw [rail]; exact hs.kept,
      .inl (by rw [finishRunEnd_eq]; rfl)⟩
  unfold teardownDue at h
  split at h
  · obtain ⟨_, h⟩ := Option.ite_none_left_eq_some.mp h
    split at h
    · cases h; exact finished
    next other =>
      cases h
      generalize hu : { s with run := { s.run with teardown := .frames } } = u
      have steady := (steady_leaveGroup (giveUp u)).toLinkSteady
      have given := (railMoves_giveUp u).steady.toLinkSteady
      have run : (leaveGroup (giveUp u)).run = u.run := (linkSideOnly_leaveGroup _).run.trans (linkSideOnly_giveUp u).run
      refine ⟨(linkSends_congr (steady.st.trans given.st)).trans ?_, ?_, ?_, ?_⟩
      · rw [← hu]; exact hs.mute
      · rw [leaveGroup_rail]; exact (giveUp_seeks_nothing u).1
      · rw [leaveGroup_rail]; exact giveUp_kept u
      · rw [run, ← hu]; exact hs.ended
  · obtain ⟨_, h⟩ := Option.ite_none_left_eq_some.mp h
    obtain ⟨_, h⟩ := Option.ite_none_left_eq_some.mp h
    cases h
    exact finished

theorem Silenced.next {s t : State} (hs : Silenced s) (h : nextAction s = some t) : Silenced t := by
  rcases nextAction_cases h with h | ⟨_, h⟩ | ⟨_, _, h⟩
  · exact hs.of_same (linkSame_hciDue h) (hciDue_over h).1 (hciDue_over h).2
  · exact hs.of_same (linkSame_unitDue h) (unitDue_over h).1 (unitDue_over h).2
  · unfold sequencerDue at h
    split at h
    · cases h
    · exact hs.teardown h
    next running free => exact absurd hs.ended (by rw [running, free]; simp)
    next pausing free => exact absurd hs.ended (by rw [pausing, free]; simp)
    · cases h

/-- The card's own actions seek nothing behind a silenced link. -/
theorem Silenced.settled {s : State} (h : Silenced s) : Silenced (settle s) :=
  settle_keeps (P := Silenced) (fun _ _ due hs => hs.next due) s h

/-- With no run in progress the card's own actions leave the mainframe side. -/
theorem linkSame_settle_idle {s : State} (h : s.run.seq = .idle) : LinkSame s (settle s) := by
  refine (settle_keeps (P := fun u => u.run.seq = .idle ∧ LinkSame s u) (fun u v due hu => ?_) s ⟨h, .refl s⟩).2
  obtain ⟨idle, same⟩ := hu
  rcases nextAction_cases due with due | ⟨_, due⟩ | ⟨_, _, due⟩
  · exact ⟨(hciDue_over due).1.trans idle, same.trans (linkSame_hciDue due)⟩
  · exact ⟨(unitDue_over due).1.trans idle, same.trans (linkSame_unitDue due)⟩
  · unfold sequencerDue at due
    rw [idle] at due
    cases due

/-- Once an end cause has been taken no run goes on without one. -/
theorem endRun_ended (cause : EndCause) (s : State) : (endRun cause s).run.seq = .idle ∨ (endRun cause s).run.ending ≠ none := by
  by_cases idle : s.run.seq = .idle
  · rw [endRun_idle cause idle]; exact .inl idle
  · right
    cases ending : s.run.ending with
    | some c => rw [endRun_ending cause ending, ending]; exact Option.some_ne_none c
    | none =>
      rw [endRun_taken cause idle ending]
      split
      · exact Option.some_ne_none cause
      · rw [(handAbandon_over _).2]; exact Option.some_ne_none cause

/-- An end cause taken behind a link gone MUTE. -/
theorem silenced_goMute {s : State} (sends : linkSends s = true) : Silenced (goMute s) := by
  have side := linkSame_endRun .linkMute (muted s)
  have mute : linkSends (muted s) = false := rfl
  rw [goMute_sends sends]
  exact ⟨(linkSends_congr (by rw [side.link])).trans mute, by rw [side.rail]; rfl, by rw [side.rail]; rfl, endRun_ended _ _⟩

/-! ## The entry of a frame behind a silenced link -/

/-- A station that seeks nothing makes no evaluation (R145). -/
theorem evaluateClaim_resting {s : State} (h : s.rail.seeking = false) : evaluateClaim s = s := by
  unfold evaluateClaim
  split
  · rfl
  · exact if_neg (by simp [h])

/-- What the entry of a frame leaves at a station that seeks nothing: the link, the Rail Share Unit but for its waiter list, the head and
its clocks, and the run but for what a SYNC step passed changes. -/
structure Entered (s t : State) : Prop where
  link : t.link = s.link
  rail : t.rail = { s.rail with waiters := t.rail.waiters }
  hci : t.hci = s.hci
  sites : t.sites = s.sites
  timers : t.timers = s.timers
  seq : t.run.seq = s.run.seq
  ending : t.run.ending = s.run.ending
  teardown : t.run.teardown = s.run.teardown
  inflight : t.run.inflight = s.run.inflight

theorem Entered.trans {s t u : State} (h : Entered s t) (h' : Entered t u) : Entered s u :=
  ⟨h'.link.trans h.link, by rw [h'.rail, h.rail], h'.hci.trans h.hci, h'.sites.trans h.sites, h'.timers.trans h.timers,
    h'.seq.trans h.seq, h'.ending.trans h.ending, h'.teardown.trans h.teardown, h'.inflight.trans h.inflight⟩

theorem entered_ite {c : Prop} [Decidable c] {s t u : State} (ht : Entered s t) (hu : Entered s u) : Entered s (if c then t else u) := by
  split
  · exact ht
  · exact hu

theorem entered_syncPassed (s : State) : Entered s (syncPassed s) := by
  unfold syncPassed
  split
  · exact entered_ite ⟨rfl, rfl, rfl, rfl, rfl, rfl, rfl, rfl, rfl⟩ ⟨rfl, rfl, rfl, rfl, rfl, rfl, rfl, rfl, rfl⟩
  · exact ⟨rfl, rfl, rfl, rfl, rfl, rfl, rfl, rfl, rfl⟩
  · exact ⟨rfl, rfl, rfl, rfl, rfl, rfl, rfl, rfl, rfl⟩
  · exact ⟨rfl, rfl, rfl, rfl, rfl, rfl, rfl, rfl, rfl⟩

theorem entered_evaluateSync (s : State) : Entered s (evaluateSync s) := by
  unfold evaluateSync
  split
  · have awaited : Entered s { s with sync := { s.sync with awaited := none } } := ⟨rfl, rfl, rfl, rfl, rfl, rfl, rfl, rfl, rfl⟩
    exact entered_ite (awaited.trans (entered_syncPassed _)) ⟨rfl, rfl, rfl, rfl, rfl, rfl, rfl, rfl, rfl⟩
  · exact ⟨rfl, rfl, rfl, rfl, rfl, rfl, rfl, rfl, rfl⟩

theorem entered_takeEntry (x : Station) (f : Frame) {s : State} (h : s.rail.seeking = false) : Entered s (takeEntry x f s) := by
  have applied : Entered s (applyFrame x f s) := by cases f <;> exact ⟨rfl, rfl, rfl, rfl, rfl, rfl, rfl, rfl, rfl⟩
  have resting : evaluateClaim (applyFrame x f s) = applyFrame x f s := evaluateClaim_resting (by rw [applied.rail]; exact h)
  unfold takeEntry
  dsimp only
  rw [resting, ite_self]
  exact entered_ite (applied.trans (entered_evaluateSync _)) applied

theorem Entered.silenced {s t : State} (h : Entered s t) (hs : Silenced s) : Silenced t :=
  ⟨(linkSends_congr (by rw [h.link])).trans hs.mute, by rw [h.rail]; exact hs.seeking, by rw [h.rail]; exact hs.kept,
    by rw [h.seq, h.ending]; exact hs.ended⟩

theorem Entered.abandonSent {s t : State} (h : Entered s t) (hs : AbandonSent s) : AbandonSent t := by
  unfold AbandonSent
  rw [h.hci, h.sites, h.timers]
  exact hs

/-! ## The card at rest after the silencing -/

/-- The link and the Rail Share Unit of a station that a frame or an objection has silenced (R127, R154). -/
structure MuteRest (s t : State) : Prop where
  st : t.link.st = .mute
  out : t.link.out = Outgoing.empty
  attempt : t.link.attempt = none
  rollWindow : t.link.rollWindow = none
  objections : t.link.objections = s.link.objections
  railSt : t.rail.st = s.rail.st
  seeking : t.rail.seeking = false
  kept : t.rail.kept = none

theorem goMute_link {s : State} (sends : linkSends s = true) : (goMute s).link = (muted s).link ∧ (goMute s).rail = s.rail.muted
    ∧ (goMute s).peers = s.peers := by
  have side := linkSame_endRun .linkMute (muted s)
  rw [goMute_sends sends]
  exact ⟨side.link, side.rail, side.peers⟩

/-- A silenced link with nothing pending is at rest on the rail side. -/
theorem muteRest_settle {s t : State} (link : t.link = (muted s).link) (railSt : t.rail.st = s.rail.st) (silenced : Silenced t) :
    MuteRest s (settle t) := by
  have steady := (steady_settle t).toLinkSteady
  have rest := silenced.settled
  refine ⟨steady.st.trans (by rw [link]; rfl), steady.silent silenced.mute (by rw [link]; rfl), steady.line (by rw [link]; rfl),
    (leaves_settle t).rollWindow.trans (by rw [link]; rfl), steady.objections.trans (by rw [link]; rfl), steady.railSt.trans railSt,
    rest.seeking, rest.kept⟩

/-- A run in progress with an idle HCI ends LINK MUTE, and its ABANDON goes out (R127, R72). -/
theorem goMute_abandons {s : State} (sends : linkSends s = true) (running : s.run.seq ≠ .idle) (free : s.run.ending = none)
    (quiet : HciQuiet s) :
    (goMute s).run = { s.run with ending := some .linkMute, teardown := .abandon, inflight := none } ∧ AbandonSent (goMute s) := by
  obtain ⟨run, sent, _⟩ := endRun_quiet (s := muted s) (cause := .linkMute) quiet running free nofun nofun
  rw [goMute_sends sends]
  exact ⟨run, sent⟩

end Sys2Proof.Machine
end

section
/-! An own frame carried, and a frame with the own number that this station did not send (R125, R126, R127, R141). -/

namespace Sys2Proof.Machine

/-- The own frame on the line carried: the rail state moves by the table, the objection count is 0 and the line is free (R122, R141). -/
theorem own_frame_carried {c : Instr} {f : Frame} {a : Attempt} {s : State} (sends : linkSends s = true) (line : s.link.attempt = some a)
    (frame : a.frame = f) (h : frameOf c = some (s.link.own, f)) :
    ∃ t, exec c s = .next t ∧ t.rail.st = railAfter f.kind s.rail.st ∧ t.link.objections = 0 ∧ t.link.attempt = none := by
  have taken := (linkSteady_takePresence s.link.own f s).trans (linkSteady_takeEntry s.link.own f _)
  refine ⟨_, exec_frameOf h s, ?_⟩
  rw [takeFrame_carried (linkHears_of_sends sends) line frame]
  generalize takeEntry s.link.own f (takePresence s.link.own f s) = u at taken
  obtain ⟨_, objections, attempt, railSt⟩ := ownCarried_link a f u
  have steady := (steady_settle (ownCarried a f u)).toLinkSteady
  exact ⟨steady.railSt.trans (railSt.trans (by rw [taken.railSt])), steady.objections.trans objections, steady.line attempt⟩

theorem railAfter_wait (r : RailState) : railAfter .wait r = if r = .none then .waiting else r := by cases r <;> rfl
theorem railAfter_claim (r : RailState) : railAfter .claim r = .holding := by cases r <;> rfl
theorem railAfter_release (r : RailState) : railAfter .release r = if r = .holding then .none else r := by cases r <;> rfl
theorem railAfter_withdraw (r : RailState) : railAfter .withdraw r = if r = .waiting then .none else r := by cases r <;> rfl

/-- The own ROLL carried in ROLLING opens the roll window (R126). -/
theorem ownCarried_rollWindow (a : Attempt) (b : Nat) {s : State} (rolling : s.link.st = .rolling) :
    (ownCarried a (.roll b) s).link.rollWindow = some 3000 := by
  obtain ⟨_, _, _, _, _, window, _⟩ := railStateCarried_fields .roll (carriedAttempt a (.roll b) s)
  have opened : (carriedAttempt a (.roll b) s).link.rollWindow = some 3000 := by
    rw [congrArg State.link (carriedAttempt_eq a (.roll b) s)]
    exact if_pos ⟨rfl, rolling⟩
  rw [ownCarried_eq, (leaves_giveUpSteps _).rollWindow, (leaves_evaluateClaim _).rollWindow]
  exact window.trans opened

theorem own_roll_carried {a : Attempt} {b : BitVec 16} {s : State} (rolling : s.link.st = .rolling) (range : b.toNat ≤ 1023)
    (line : s.link.attempt = some a) (frame : a.frame = .roll b.toNat) :
    ∃ t, exec (.roll s.link.own b) s = .next t ∧ t.link.rollWindow = some 3000 ∧ t.link.st = .rolling := by
  have sends : linkSends s = true := by unfold linkSends; rw [rolling]; rfl
  have taken := (linkSteady_takePresence s.link.own (.roll b.toNat) s).trans (linkSteady_takeEntry s.link.own (.roll b.toNat) _)
  refine ⟨_, exec_frameOf (frameOf_roll range) s, ?_⟩
  rw [takeFrame_carried (linkHears_of_sends sends) line frame]
  generalize takeEntry s.link.own (.roll b.toNat) (takePresence s.link.own (.roll b.toNat) s) = u at taken
  have still : u.link.st = .rolling := taken.st.trans rolling
  have leaves := leaves_settle (ownCarried a (.roll b.toNat) u)
  exact ⟨leaves.rollWindow.trans (ownCarried_rollWindow a b.toNat still), leaves.linkSt.trans ((ownCarried_link a _ u).1.trans still)⟩

/-! ## A frame with the own number that another station sent -/

/-- The card when a foreign frame with its own number has taken its first step. -/
def overheard (f : Frame) (s : State) : State := takePresence s.link.own f (loseAttempt s)

theorem linkSteady_overheard (f : Frame) (s : State) : LinkSteady s (overheard f s) :=
  (steady_loseAttempt s).1.toLinkSteady.trans (linkSteady_takePresence s.link.own f _)

/-- Only a frame that carries a budget touches the run before the link goes MUTE (R124, R152). -/
theorem linkSideOnly_overheard {f : Frame} (h : f.budget? = none) (s : State) : LinkSideOnly s (overheard f s) := by
  have present : takePresence s.link.own f (loseAttempt s) = updPeer s.link.own (fun e => { e with present := true }) (loseAttempt s) := by
    unfold takePresence
    rw [h]
  unfold overheard
  rw [present]
  exact (linkSideOnly_loseAttempt s).trans (linkSideOnly_updPeer _ _ _)

theorem budget_none {f : Frame} (state : f.kind ≠ .state) (roll : f.kind ≠ .roll) : f.budget? = none := by
  cases f with
  | state => exact absurd rfl state
  | roll => exact absurd rfl roll
  | release | withdraw | leave | mark | wait | claim => rfl

/-- A frame with the own number that this station did not send makes the link MUTE (R125). -/
theorem own_number_heard {c : Instr} {f : Frame} {s : State} (h : frameOf c = some (s.link.own, f)) (sends : linkSends s = true)
    (foreign : ∀ a, s.link.attempt = some a → a.frame ≠ f) :
    exec c s = .next (settle (takeEntry s.link.own f (goMute (overheard f s))))
      ∧ MuteRest s (settle (takeEntry s.link.own f (goMute (overheard f s)))) := by
  have heard := linkSteady_overheard f s
  have told : linkSends (overheard f s) = true := (linkSends_congr heard.st).trans sends
  obtain ⟨link, rail, _⟩ := goMute_link told
  have silenced := silenced_goMute told
  have entered := entered_takeEntry s.link.own f silenced.seeking
  have rest : MuteRest (overheard f s) _ := muteRest_settle (entered.link.trans link)
    (by rw [entered.rail, rail]; rfl) (entered.silenced silenced)
  refine ⟨by rw [exec_frameOf h s, takeFrame_silencing (linkHears_of_sends sends) foreign]; rfl, ?_⟩
  exact { rest with objections := rest.objections.trans heard.objections, railSt := rest.railSt.trans heard.railSt }

/-- Unless a budget came with the frame, a run in progress with an idle HCI ends LINK MUTE and its ABANDON goes out. -/
theorem own_number_ends {f : Frame} {s : State} (state : f.kind ≠ .state) (roll : f.kind ≠ .roll) (sends : linkSends s = true)
    (running : s.run.seq ≠ .idle) (free : s.run.ending = none) (quiet : HciQuiet s) :
    (settle (takeEntry s.link.own f (goMute (overheard f s)))).run.ending = some .linkMute
      ∧ AbandonSent (settle (takeEntry s.link.own f (goMute (overheard f s)))) := by
  have told : linkSends (overheard f s) = true := (linkSends_congr (linkSteady_overheard f s).st).trans sends
  have side := linkSideOnly_overheard (budget_none state roll) s
  have entered := entered_takeEntry s.link.own f (silenced_goMute told).seeking
  have still : HciQuiet (overheard f s) := by
    obtain ⟨_, _, _, _, same⟩ := side
    rw [same]
    exact quiet
  obtain ⟨run, sent⟩ := goMute_abandons told (by rw [side.run]; exact running) (by rw [side.run]; exact free) still
  have ending := entered.ending.trans (congrArg Run.ending run)
  have abandoned := entered.abandonSent sent
  rw [settle_abandoned ?_ ending (entered.teardown.trans (congrArg Run.teardown run)) abandoned.1
    (entered.inflight.trans (congrArg Run.inflight run))]
  · exact ⟨ending, abandoned⟩
  · rw [entered.seq, congrArg Run.seq run, side.run]
    exact running

/-- Settles O44: the own frame carried, the own ROLL carried, and a foreign frame with the own number. -/
theorem ownFramesCarried : Obligations.OwnFramesCarried := by
  refine ⟨fun r n k s sends low high step => ⟨fun line => ?_, fun line => ?_, fun line => ?_, fun line => ?_⟩,
    fun r b s rolling range line => own_roll_carried rolling range line rfl, fun c f s h sends foreign => ?_⟩
  · rw [← railAfter_wait]; exact own_frame_carried sends line rfl (frameOf_wait low high)
  · rw [← railAfter_claim s.rail.st]; exact own_frame_carried sends line rfl (frameOf_claim low high step)
  · rw [← railAfter_release]; exact own_frame_carried sends line rfl (frameOf_release low high)
  · rw [← railAfter_withdraw]; exact own_frame_carried sends line rfl rfl
  · obtain ⟨heard, rest⟩ := own_number_heard h sends foreign
    exact ⟨_, heard, rest.st, rest.out, rest.attempt, rest.rollWindow, rest.objections, rest.railSt, rest.seeking, rest.kept,
      fun state roll running free quiet => own_number_ends state roll sends running free quiet⟩

end Sys2Proof.Machine
end

section
/-! The claim rule by its figures, and its action table (R144, R145). -/

namespace Sys2Proof.Machine

/-- A station that seeks, is not giving up and whose link is UP evaluates the claim rule for its own demand (R144, R145). -/
structure Evaluating (d : Nat) (s : State) : Prop where
  demand : s.rail.ownDemand = some d
  seeking : s.rail.seeking = true
  givingUp : s.rail.givingUp = false
  up : s.link.st = .up

/-- The CLAIM handed over for a demand, unless one for it is pending (R144, log 30). -/
def claimHanded (d : Nat) (s : State) : State :=
  if s.link.out.claim.map (·.1) = some d then s else handFrame (.claim d (claimStep s)) s

namespace Evaluating

variable {d : Nat} {s : State}

theorem sends (h : Evaluating d s) : linkSends s = true := by
  unfold linkSends
  rw [h.up]
  rfl

/-- Conditions 1 and 3 hold; what is left is the rail state and the two figures. -/
theorem claimRule_iff (h : Evaluating d s) : claimRule s d = true ↔
    (s.rail.st = .none ∨ s.rail.st = .waiting) ∧ d + tally s + needsAhead s ≤ s.link.effBudget := by
  have figures : ((d : Int) ≤ freeRail s ∧ (needsAhead s : Int) ≤ freeRail s - d)
      ↔ d + tally s + needsAhead s ≤ s.link.effBudget := by
    unfold freeRail
    omega
  unfold claimRule
  rw [h.seeking, h.givingUp, h.up]
  simp only [Bool.and_eq_true, Bool.or_eq_true, beq_iff_eq, decide_eq_true_eq, figures, Bool.not_false, and_self, true_and, and_true]

theorem claimRule_free (h : Evaluating d s) (free : s.rail.st ≠ .holding) :
    claimRule s d = true ↔ d + tally s + needsAhead s ≤ s.link.effBudget := by
  refine h.claimRule_iff.trans (and_iff_right ?_)
  cases st : s.rail.st with
  | none => exact .inl rfl
  | waiting => exact .inr rfl
  | holding => exact absurd st free

theorem claimRule_holding (h : Evaluating d s) (holding : s.rail.st = .holding) : claimRule s d = false := by
  rw [← Bool.not_eq_true, h.claimRule_iff, holding]
  simp

theorem seeks (h : Evaluating d s) : (s.rail.seeking && !s.rail.givingUp) = true := by
  rw [h.seeking, h.givingUp]
  rfl

/-- The rule fulfilled: CLAIM is handed over unless it is pending for the demand, and in NONE the WAIT is removed (R144). -/
theorem evaluated_rule (h : Evaluating d s) (rule : claimRule s d = true) : evaluateClaim s =
    if s.rail.st = .none then removeFrame .wait (claimHanded d s) else claimHanded d s := by
  have still : (claimHanded d s).rail.st = s.rail.st := by
    unfold claimHanded
    split
    · rfl
    · rw [handFrame_rail]
  rw [← still]
  unfold evaluateClaim
  rw [h.demand]
  exact (if_pos h.seeks).trans (if_pos rule)

/-- The rule not fulfilled: CLAIM is removed, and in NONE a WAIT for the demand is handed over unless one is pending (R144). -/
theorem evaluated_unfulfilled (h : Evaluating d s) (rule : claimRule s d = false) : evaluateClaim s =
    if s.rail.st = .none ∧ s.link.out.wait = none then handFrame (.wait d) (removeFrame .claim s) else removeFrame .claim s := by
  have table : ((removeFrame .claim s).rail.st = .none ∧ (removeFrame .claim s).link.st = .up
      ∧ (removeFrame .claim s).link.out.wait = none)
      ↔ (s.rail.st = .none ∧ s.link.out.wait = none) := and_congr_right fun _ => and_iff_right h.up
  rw [← if_congr table rfl rfl]
  unfold evaluateClaim
  rw [h.demand]
  exact (if_pos h.seeks).trans (if_neg (Bool.eq_false_iff.mp rule))

end Evaluating

/-- A frame handed to a link that sends: put into the set, and an attempt with one of its kind marked as replaced (R121). -/
theorem handFrame_sends {s : State} (f : Frame) (h : linkSends s = true) : handFrame f s = s.withLink { s.link with
    out := s.link.out.put f
    attempt := s.link.attempt.map fun a => if a.frame.kind = f.kind then { a with replaced := true } else a } := if_pos h

/-- Settles O45: the rule by its figures, and each line of the action table. -/
theorem claimRuleActed : Obligations.ClaimRuleActed := by
  intro d s demand seeking givingUp up
  have h : Evaluating d s := ⟨demand, seeking, givingUp, up⟩
  refine ⟨h.claimRule_free, h.claimRule_holding, fun rule => ⟨fun unclaimed => ?_, fun claimed => ?_⟩,
    fun rule => ⟨fun st wait => ?_, fun waits => ?_⟩⟩
  · have handed : claimHanded d s = handFrame (.claim d (claimStep s)) s := if_neg unclaimed
    rw [h.evaluated_rule rule, handed, handFrame_sends _ h.sends]
    split <;> rfl
  · have handed : claimHanded d s = s := if_pos claimed
    rw [h.evaluated_rule rule, handed]
    split <;> rfl
  · rw [h.evaluated_unfulfilled rule, if_pos ⟨st, wait⟩]
    exact handFrame_sends (s := removeFrame .claim s) (.wait d) h.sends
  · rw [h.evaluated_unfulfilled rule, if_neg (not_and_or.mpr waits)]
    rfl

end Sys2Proof.Machine
end

section
/-! The five bytes of a frame read by their figures (R117, R118, R120, section 12.2). -/

namespace Sys2Proof.Machine

/-! ## The figures of the bytes -/

/-- The check sum of R117, as a figure. -/
theorem checkSum_iff (key p1 p2 p3 check : Byte) : key + p1 + p2 + p3 + check = 0 ↔
    (key.toNat + p1.toNat + p2.toNat + p3.toNat + check.toNat) % 256 = 0 := by
  have zero : (0 : Byte).toNat = 0 := rfl
  rw [← BitVec.toNat_inj]
  simp only [BitVec.toNat_add, zero]
  omega

theorem append_toNat {w : Nat} (a : BitVec w) (b : Byte) : (a ++ b).toNat = 256 * a.toNat + b.toNat := by
  rw [BitVec.toNat_append, ← Nat.shiftLeft_add_eq_or_of_lt b.isLt, Nat.shiftLeft_eq, Nat.mul_comm]

theorem stateHeld_toNat (p1 p2 p3 : Byte) : ((p1 ++ p2 ++ p3).extractLsb' 12 12).toNat = 16 * p1.toNat + p2.toNat / 16 := by
  rw [BitVec.extractLsb'_toNat, append_toNat, append_toNat, Nat.shiftRight_eq_div_pow]
  have first := p1.isLt
  have second := p2.isLt
  have third := p3.isLt
  omega

theorem stateBudget_toNat (p1 p2 p3 : Byte) : ((p1 ++ p2 ++ p3).extractLsb' 0 12).toNat = 256 * (p2.toNat % 16) + p3.toNat := by
  rw [BitVec.extractLsb'_toNat, append_toNat, append_toNat, Nat.shiftRight_zero]
  have third := p3.isLt
  omega

theorem FrameKind.code_range (k : FrameKind) : 1 ≤ k.code ∧ k.code ≤ 8 := by cases k <;> decide

theorem frameKindOf_eq_some {n : Nat} {k : FrameKind} (h : frameKindOf n = some k) : n = k.code := by
  unfold frameKindOf at h
  split at h <;> cases h <;> rfl

/-- The codes of no kind (R120, condition 2). -/
theorem frameKindOf_eq_none (n : Nat) : frameKindOf n = none ↔ n = 0 ∨ 9 ≤ n := by
  constructor
  · intro h
    by_contra known
    have range : n = 1 ∨ n = 2 ∨ n = 3 ∨ n = 4 ∨ n = 5 ∨ n = 6 ∨ n = 7 ∨ n = 8 := by omega
    rcases range with rfl | rfl | rfl | rfl | rfl | rfl | rfl | rfl <;> cases h
  · intro h
    cases found : frameKindOf n with
    | none => rfl
    | some k =>
      have range := k.code_range
      rw [frameKindOf_eq_some found] at h
      omega

/-! ## The payload -/

theorem leaveFrame_isSome (g : Byte) : (leaveFrame g).isSome = true ↔ g.toNat ≤ 3 := by
  unfold leaveFrame
  split
  next low => exact iff_of_true rfl (Nat.le_of_lt_succ low)
  next high => exact iff_of_false Bool.false_ne_true fun low => high (Nat.lt_succ_of_le low)

theorem markFrame_isSome (g m : Byte) : (markFrame g m).isSome = true ↔ g.toNat ≤ 3 ∧ m.toNat ≤ 128 := by
  unfold markFrame
  split
  next low =>
    rw [and_iff_right (Nat.le_of_lt_succ low)]
    exact Option.isSome_ite
  next high => exact iff_of_false Bool.false_ne_true fun range => high (Nat.lt_succ_of_le range.1)

/-- A payload says a frame of its kind exactly when its fields lie in their ranges (R118). -/
theorem payloadFrame_isSome (p1 p2 p3 : Byte) (k : FrameKind) :
    (payloadFrame p1 p2 p3 k).isSome = true ↔ FieldsInRange k.code p1.toNat p2.toNat p3.toNat := by
  cases k with
  | withdraw => simp [payloadFrame, FieldsInRange, FrameKind.code]
  | leave => simp [payloadFrame, leaveFrame_isSome, FieldsInRange, FrameKind.code]
  | mark => simp [payloadFrame, markFrame_isSome, FieldsInRange, FrameKind.code]
  | roll => exact Option.isSome_ite.trans (by simp [append_toNat, FieldsInRange, FrameKind.code])
  | release | wait => exact Option.isSome_ite.trans (by simp [append_toNat, FieldsInRange, FrameKind.code])
  | claim => exact Option.isSome_ite.trans (by simp [append_toNat, FieldsInRange, FrameKind.code, and_assoc])
  | state =>
    refine Option.isSome_ite.trans ?_
    rw [stateHeld_toNat, stateBudget_toNat]
    simp [FieldsInRange, FrameKind.code]

/-- Five bytes say no frame exactly when one of the first four conditions of R120 holds of them. -/
theorem frameHeard_none_iff (key p1 p2 p3 check : Byte) : frameHeard [key, p1, p2, p3, check] = none ↔
    (key.toNat + p1.toNat + p2.toNat + p3.toNat + check.toNat) % 256 ≠ 0
      ∨ key.toNat / 16 = 0 ∨ 9 ≤ key.toNat / 16 ∨ 8 ≤ key.toNat % 16
      ∨ ¬ FieldsInRange (key.toNat / 16) p1.toNat p2.toNat p3.toNat := by
  have sum := checkSum_iff key p1 p2 p3 check
  by_cases heard : key + p1 + p2 + p3 + check = 0 ∧ key.toNat % 16 < 8
  · have said : frameHeard [key, p1, p2, p3, check] = none ↔ (frameKindOf (key.toNat / 16)).bind (payloadFrame p1 p2 p3) = none := by
      rw [show frameHeard [key, p1, p2, p3, check] = _ from dif_pos heard, Option.map_eq_none_iff]
    obtain ⟨zero, station⟩ := heard
    have even := sum.mp zero
    rw [said]
    cases kind : frameKindOf (key.toNat / 16) with
    | none =>
      have code := (frameKindOf_eq_none _).mp kind
      exact iff_of_true rfl (by tauto)
    | some k =>
      have code := (frameKindOf_eq_none (key.toNat / 16)).not.mp (by rw [kind]; exact Option.some_ne_none k)
      have fields := payloadFrame_isSome p1 p2 p3 k
      rw [← frameKindOf_eq_some kind] at fields
      have none_iff : (payloadFrame p1 p2 p3 k) = none ↔ ¬ FieldsInRange (key.toNat / 16) p1.toNat p2.toNat p3.toNat := by
        rw [← fields, Bool.not_eq_true, Option.isSome_eq_false_iff, Option.isNone_iff_eq_none]
      rw [show (some k).bind (payloadFrame p1 p2 p3) = payloadFrame p1 p2 p3 k from rfl, none_iff]
      have low := Nat.not_le.mpr station
      tauto
  · refine iff_of_true (dif_neg heard) ?_
    rw [sum] at heard
    omega

/-- Two payload bytes hold any count of units (section 12.2). -/
theorem twoBytes_toNat {u : Nat} (h : u ≤ 1023) : (BitVec.ofNat 8 (u / 256 ^ 1) ++ BitVec.ofNat 8 (u / 256 ^ 0)).toNat = u := by
  rw [append_toNat, BitVec.toNat_ofNat, BitVec.toNat_ofNat]
  omega

theorem byte_toNat {k : Nat} (h : k ≤ 255) : (BitVec.ofNat 8 k).toNat = k := Nat.mod_eq_of_lt (Nat.lt_succ_of_le h)

/-- The three payload bytes of a STATE hold both of its figures (section 12.2). -/
theorem stateBytes_toNat {h b : Nat} {p1 p2 p3 : Byte} (bytes : beBytes 3 (h * 4096 + b) = [p1, p2, p3]) (held : h ≤ 1023)
    (budget : b ≤ 1023) :
    ((p1 ++ p2 ++ p3).extractLsb' 12 12).toNat = h ∧ ((p1 ++ p2 ++ p3).extractLsb' 0 12).toNat = b := by
  simp only [beBytes, List.cons.injEq, and_true] at bytes
  obtain ⟨rfl, rfl, rfl⟩ := bytes
  rw [stateHeld_toNat, stateBudget_toNat, BitVec.toNat_ofNat, BitVec.toNat_ofNat, BitVec.toNat_ofNat]
  omega

/-- The payload bytes of a frame within its ranges say the frame (section 12.2). -/
theorem payload_says (f : Frame) : ∃ p1 p2 p3, f.payload = [p1, p2, p3] ∧ (goodFrame f → payloadFrame p1 p2 p3 f.kind = some f) := by
  cases f with
  | withdraw => exact ⟨_, _, _, rfl, fun _ => rfl⟩
  | leave g => exact ⟨_, _, _, rfl, fun _ => leaveFrame_group g⟩
  | release u =>
    refine ⟨_, _, _, rfl, fun good => (if_pos ?_).trans (congrArg (fun n => some (Frame.release n)) (twoBytes_toNat good.2))⟩
    rw [twoBytes_toNat good.2]; exact good
  | roll u =>
    refine ⟨_, _, _, rfl, fun good => (if_pos ?_).trans (congrArg (fun n => some (Frame.roll n)) (twoBytes_toNat good))⟩
    rw [twoBytes_toNat good]; exact good
  | wait u =>
    refine ⟨_, _, _, rfl, fun good => (if_pos ?_).trans (congrArg (fun n => some (Frame.wait n)) (twoBytes_toNat good.2))⟩
    rw [twoBytes_toNat good.2]; exact good
  | mark g k =>
    refine ⟨_, _, _, rfl, fun good => ?_⟩
    have mark : (BitVec.ofNat 8 k).toNat = k := byte_toNat (le_trans good (by decide))
    exact (markFrame_group (by rw [mark]; exact good)).trans (congrArg (fun n => some (Frame.mark g n)) mark)
  | claim u k =>
    refine ⟨_, _, _, rfl, fun good => ?_⟩
    obtain ⟨low, high, step⟩ := good
    have units := twoBytes_toNat high
    have byte : (BitVec.ofNat 8 k).toNat = k := byte_toNat (le_trans step (by decide))
    refine (if_pos ?_).trans (congrArg₂ (fun n m => some (Frame.claim n m)) units byte)
    rw [units, byte]
    exact ⟨low, high, step⟩
  | state h b =>
    refine ⟨_, _, _, rfl, fun good => ?_⟩
    obtain ⟨held, budget⟩ := stateBytes_toNat rfl good.1 good.2
    refine (if_pos ?_).trans (congrArg₂ (fun n m => some (Frame.state n m)) held budget)
    rw [held, budget]
    exact good

/-- The check byte makes the sum 0 (R117). -/
theorem checkByte_sum (key p1 p2 p3 : Byte) : key + p1 + p2 + p3 + (0 - (0 + key + p1 + p2 + p3)) = 0 := by
  rw [zero_add, zero_sub, add_neg_cancel]

/-- The bytes of a frame within its ranges say the frame and its station (R117). -/
theorem frameHeard_frameBytes (x : Station) {f : Frame} (good : goodFrame f) : frameHeard (frameBytes x f) = some (x, f) := by
  obtain ⟨p1, p2, p3, payload, said⟩ := payload_says f
  obtain ⟨_, code⟩ := f.kind.code_range
  have station := x.isLt
  have key : (BitVec.ofNat 8 (frameKey x f)).toNat = 16 * f.kind.code + x := byte_toNat (by unfold frameKey; omega)
  have bytes : frameBytes x f = [BitVec.ofNat 8 (frameKey x f), p1, p2, p3, 0 - (0 + BitVec.ofNat 8 (frameKey x f) + p1 + p2 + p3)] := by
    unfold frameBytes
    rw [payload]
    rfl
  rw [bytes]
  generalize BitVec.ofNat 8 (frameKey x f) = k at key
  have number : k.toNat % 16 = x := by omega
  have kind : k.toNat / 16 = f.kind.code := by omega
  have heard : k + p1 + p2 + p3 + (0 - (0 + k + p1 + p2 + p3)) = 0 ∧ k.toNat % 16 < 8 := ⟨checkByte_sum k p1 p2 p3, by omega⟩
  refine (dif_pos heard).trans ?_
  rw [kind, frameKindOf_code, Option.bind_some, said good]
  simp only [number, Option.map_some]

end Sys2Proof.Machine
end

section
/-! The attempts: what a frame start puts on the line, and what a lost and a void attempt leave (R119 to R123, R126, R127, R131, R149,
R154). -/

namespace Sys2Proof.Machine

/-! ## The frame that a start begins to send -/

/-- The frame stands in the outgoing set, filled with the figures in force (R121, R126, R131). -/
def Pending (s : State) : Frame → Prop
  | .release u => s.link.out.release = some u
  | .withdraw => s.link.out.withdraw = true
  | .leave g => s.link.out.leave = some g
  | .state h b => s.link.out.state = true ∧ h = s.peers[s.link.own].held ∧ b = s.link.ownBudget
  | .roll b => s.link.out.roll = true ∧ b = s.link.ownBudget
  | .mark g k => s.link.out.mark = some (g, k)
  | .wait n => s.link.out.wait = some n
  | .claim u k => s.link.out.claim = some (u, k)

theorem has_of_pending {s : State} {f : Frame} (h : Pending s f) : s.link.out.has f.kind = true := by
  cases f with
  | release | leave | mark | wait | claim => exact Option.isSome_iff_exists.mpr ⟨_, h⟩
  | withdraw => exact h
  | state | roll => exact h.1

/-- The lowest frame is pending, and no pending kind has a lower code (R121). -/
theorem lowestFrame_some {s : State} {f : Frame} (h : lowestFrame s = some f) :
    Pending s f ∧ ∀ k : FrameKind, s.link.out.has k = true → f.kind.code ≤ k.code := by
  unfold lowestFrame at h
  dsimp only at h
  split at h
  case h_9 => cases h
  all_goals
    cases h
    refine ⟨by simp only [Pending, *, and_self], fun k has => ?_⟩
    cases k <;> simp_all [Outgoing.has, FrameKind.code, Frame.kind]

theorem lowestFrame_empty {s : State} (h : s.link.out = Outgoing.empty) : lowestFrame s = none := by
  unfold lowestFrame
  rw [h]
  rfl

/-- A set that is not empty has a lowest frame. -/
theorem lowestFrame_exists {s : State} (h : s.link.out ≠ Outgoing.empty) : ∃ f, lowestFrame s = some f := by
  refine Option.ne_none_iff_exists'.mp fun unfilled => h ?_
  unfold lowestFrame at unfilled
  dsimp only at unfilled
  split at unfilled
  case h_9 release withdraw leave state roll mark wait claim =>
    generalize s.link.out = o at release withdraw leave state roll mark wait claim ⊢
    cases o
    simp only [Outgoing.empty, Outgoing.mk.injEq]
    exact ⟨release, withdraw, leave, state, roll, mark, wait, claim⟩
  all_goals cases unfilled

/-! ## A frame start -/

theorem startFrame_begins {s : State} {f : Frame} (sends : linkSends s = true) (free : s.link.attempt = none) (h : lowestFrame s = some f) :
    startFrame s = s.withLink { s.link with attempt := some { frame := f, replaced := false } } := by
  unfold startFrame
  rw [sends, free, h]
  rfl

/-- With nothing to send, or a busy line, a frame start changes nothing (log 1). -/
theorem startFrame_still {s : State} (h : linkSends s = false ∨ s.link.attempt ≠ none ∨ s.link.out = Outgoing.empty) :
    startFrame s = s := by
  unfold startFrame
  split
  next sends free lowest =>
    rcases h with mute | busy | empty
    · exact absurd (mute.symm.trans sends) Bool.false_ne_true
    · exact absurd free busy
    · rw [lowestFrame_empty empty] at lowest
      cases lowest
  · rfl

/-- A frame start on a free line of a link that sends puts the lowest frame on the line (R119, R121). -/
theorem exec_frameStart {s : State} (sends : linkSends s = true) (free : s.link.attempt = none) (h : s.link.out ≠ Outgoing.empty) :
    ∃ f, exec .frameStart s = .next (s.withLink { s.link with attempt := some { frame := f, replaced := false } })
      ∧ Pending s f ∧ ∀ k : FrameKind, s.link.out.has k = true → f.kind.code ≤ k.code := by
  obtain ⟨f, lowest⟩ := lowestFrame_exists h
  exact ⟨f, congrArg Host.Outcome.next (startFrame_begins sends free lowest), lowestFrame_some lowest⟩

/-! ## A lost attempt, and an objected one -/

/-- The kinds that no owner removes (R122). -/
theorem isKept_of {k : FrameKind} (h : k = .release ∨ k = .withdraw ∨ k = .leave ∨ k = .state ∨ k = .roll) : k.isKept = true := by
  rcases h with rfl | rfl | rfl | rfl | rfl <;> rfl

/-- The first seven objections in a row only end the attempt (R122). -/
theorem few_objections {a : Attempt} {s : State} (line : s.link.attempt = some a) (few : s.link.objections < 7) :
    ∃ t, exec .frameVoid s = .next t ∧ t.link.attempt = none ∧ t.link.objections = s.link.objections + 1 ∧ t.link.st = s.link.st
      ∧ t.peers = s.peers ∧ ∀ k : FrameKind, k.isKept = true → s.link.out.has k = true → t.link.out.has k = true := by
  have moved := (railMoves_attemptFailed a.frame.kind (objected s)).steady.trans (steady_settle _)
  have count : (objected s).link.objections = s.link.objections + 1 := Nat.min_eq_left (Nat.succ_le_succ (Nat.le_of_lt few))
  refine ⟨_, congrArg (fun t => Host.Outcome.next (settle t)) (voidAttempt_few line few), moved.line rfl, moved.objections.trans count,
    moved.st, moved.peers, moved.kept⟩

/-- A lost attempt leaves the line, its count unchanged (R122). -/
theorem attempt_lost (s : State) : ∃ t, exec .arbitrationLost s = .next t ∧ t.link.attempt = none
    ∧ t.link.objections = s.link.objections ∧ t.link.st = s.link.st ∧ t.peers = s.peers
    ∧ ∀ k : FrameKind, k.isKept = true → s.link.out.has k = true → t.link.out.has k = true := by
  obtain ⟨lost, free⟩ := steady_loseAttempt s
  have moved := lost.settled
  exact ⟨_, rfl, (steady_settle (loseAttempt s)).line free, moved.objections, moved.st, moved.peers, moved.kept⟩

/-- The rail side of a station with an idle HCI and no end cause, once an objection has silenced it (R149, R154). -/
theorem settle_goMute_rail {s : State} (sends : linkSends s = true) (free : s.run.ending = none) (quiet : HciQuiet s) :
    (settle (goMute s)).rail = s.rail.muted := by
  have rail := (goMute_link sends).2.1
  by_cases idle : s.run.seq = .idle
  · have still : (goMute s).run.seq = .idle := by
      rw [goMute_sends sends, endRun_idle (s := muted s) _ idle]
      exact idle
    rw [(linkSame_settle_idle still).rail, rail]
  · have rest := (endRun_quiet (s := muted s) (cause := .linkMute) quiet idle free nofun nofun).2.2
    rw [goMute_sends sends] at rail ⊢
    rw [rest, rail]

/-- A run in progress with an idle HCI ends LINK MUTE and rests with its ABANDON sent (R127). -/
theorem settle_goMute_abandons {s : State} (sends : linkSends s = true) (running : s.run.seq ≠ .idle) (free : s.run.ending = none)
    (quiet : HciQuiet s) : (settle (goMute s)).run.ending = some .linkMute ∧ AbandonSent (settle (goMute s)) := by
  obtain ⟨run, sent⟩ := goMute_abandons sends running free quiet
  have rest := (endRun_quiet (s := muted s) (cause := .linkMute) quiet running free nofun nofun).2.2
  rw [← goMute_sends sends] at rest
  rw [rest, run]
  exact ⟨rfl, sent⟩

theorem muted_rail (r : Rail) : r.muted = { r with
    ownDemand := if r.givingUp = true ∧ r.st = .none then none else r.ownDemand, seeking := false, givingUp := false, kept := none } := by
  unfold Rail.muted
  simp only [Bool.and_eq_true, beq_iff_eq]

/-- The eighth objection in a row silences the link (R123, R127, R154). -/
theorem eighth_objection {a : Attempt} {s : State} (line : s.link.attempt = some a) (many : 7 ≤ s.link.objections)
    (sends : linkSends s = true) : exec .frameVoid s = .next (settle (goMute (objected s)))
      ∧ MuteRest (objected s) (settle (goMute (objected s))) ∧ (settle (goMute (objected s))).peers = s.peers := by
  have told : linkSends (objected s) = true := sends
  obtain ⟨link, rail, peers⟩ := goMute_link told
  exact ⟨congrArg (fun t => Host.Outcome.next (settle t)) (voidAttempt_eighth line many),
    muteRest_settle link (by rw [rail]; rfl) (silenced_goMute told), (leaves_settle _).peers.trans peers⟩

/-! ## What the bytes of a frame draw -/

theorem linkSends_iff (s : State) : linkSends s = true ↔ s.link.st = .rolling ∨ s.link.st = .up := by
  unfold linkSends
  rw [Bool.or_eq_true, beq_iff_eq, beq_iff_eq]

/-- Settles O41: a frame start by the lowest frame, a lost and an objected attempt by the steady link, the eighth objection by the silenced
one, and the objections by the figures of the bytes. -/
theorem attemptsMade : Obligations.AttemptsMade := by
  refine ⟨fun s => ⟨fun still => congrArg Host.Outcome.next (startFrame_still still), fun sends free full => ?_⟩,
    fun a s line => ⟨?_, fun few => ?_, fun many sends => ?_⟩,
    fun s free => congrArg (fun t => Host.Outcome.next (settle t)) (voidAttempt_free free),
    fun s => ⟨fun heard short => ?_, fun key p1 p2 p3 check => ?_⟩, fun x f good => ⟨frameHeard_frameBytes x good, fun s => ?_⟩⟩
  · obtain ⟨f, begun, pending, least⟩ := exec_frameStart sends free full
    refine ⟨f, begun, has_of_pending pending, least, ?_, ?_, ?_, ?_, ?_, ?_, ?_⟩
    · rintro h b rfl; exact pending.2
    · rintro b rfl; exact pending.2
    · rintro u rfl; exact pending
    · rintro g rfl; exact pending
    · rintro g k rfl; exact pending
    · rintro n rfl; exact pending
    · rintro u k rfl; exact pending
  · obtain ⟨t, taken, attempt, objections, st, peers, kept⟩ := attempt_lost s
    exact ⟨t, taken, attempt, objections, st, peers, fun k hk => kept k (isKept_of hk)⟩
  · obtain ⟨t, taken, attempt, objections, st, peers, kept⟩ := few_objections line few
    exact ⟨t, taken, attempt, objections, st, peers, fun k hk => kept k (isKept_of hk)⟩
  · obtain ⟨taken, rest, peers⟩ := eighth_objection line many sends
    have count : (objected s).link.objections = 8 := Nat.min_eq_right (Nat.succ_le_succ many)
    refine ⟨_, taken, rest.st, rest.objections.trans count, rest.out, rest.attempt, rest.seeking, rest.kept, rest.railSt, peers,
      fun running free quiet => settle_goMute_abandons (s := objected s) sends running free quiet, fun free quiet => ?_⟩
    exact (settle_goMute_rail (s := objected s) sends free quiet).trans (muted_rail s.rail)
  · unfold objects
    rw [frameHeard_short short]
    exact Bool.and_true _
  · rw [objects_iff, linkSends_iff, frameHeard_none_iff]
  · rw [← Bool.not_eq_true, objects_iff, frameHeard_frameBytes x good]
    exact fun heard => Option.some_ne_none _ heard.2

end Sys2Proof.Machine
end

section
/-! The card's events as chains of what they do to the Rail Share Unit and the outgoing set: they pass beside both, hand over a frame of
another unit or a demand of the run, or have the rail given up or released. An invariant of the rail share is then shown once for each. -/

namespace Sys2Proof.Machine

/-! ## The moves -/

/-- The card may still act on the rail: it is not HALTED, or it has a run (R155, R175). -/
def MayAct (s : State) : Prop := s.alert.halted = true → s.run.seq ≠ .idle

/-- The link but its roll window, the peer table, the rail share and the card state stand, and no card that may not act comes to act. -/
structure Beside (s t : State) : Prop where
  link : { t.link with rollWindow := none } = { s.link with rollWindow := none }
  peers : t.peers = s.peers
  rail : t.rail = s.rail
  halted : t.alert.halted = s.alert.halted
  acts : MayAct t → MayAct s

/-- What of the link does not read its roll window stands. -/
theorem Beside.link_field {s t : State} (h : Beside s t) {α : Type} (g : Link → α) (hg : ∀ l, g { l with rollWindow := none } = g l) :
    g t.link = g s.link := (hg t.link).symm.trans ((congrArg g h.link).trans (hg s.link))

/-- One move of an event, by what it does to the rail share. -/
inductive ShareMove : State → State → Prop
  | beside (s t : State) (h : Beside s t) : ShareMove s t
  /-- A frame other than a CLAIM is handed over. -/
  | hand (s : State) (f : Frame) (h : f.kind ≠ .claim) : ShareMove s (handFrame f s)
  | unmark (s : State) : ShareMove s (removeFrame .mark s)
  /-- The run hands over the demand of a pass (R140). -/
  | demand (s : State) (d : Nat) (h : MayAct s) : ShareMove s (handDemand d s)
  | giveUp (s : State) (h : MayAct s) : ShareMove s (giveUp s)
  | release (s : State) : ShareMove s (releasePass s)

/-- A chain of such moves. -/
abbrev ShareMoves : State → State → Prop := Relation.ReflTransGen ShareMove

/-- What every such move keeps, a chain of them keeps. -/
theorem ShareMoves.keeps {P : State → Prop} (h : ∀ s t, ShareMove s t → P s → P t) {s t : State} (hm : ShareMoves s t) (hs : P s) :
    P t := by
  induction hm with
  | refl => exact hs
  | tail _ hb ih => exact h _ _ hb ih

theorem mayAct_of_active {s : State} (h : s.run.seq ≠ .idle) : MayAct s := fun _ => h

theorem mayAct_of_normal {s : State} (h : s.alert.halted = false) : MayAct s := fun halted => absurd (h.symm.trans halted) Bool.false_ne_true

theorem mayAct_congr {s t : State} (halted : t.alert.halted = s.alert.halted) (seq : t.run.seq = s.run.seq) : MayAct t → MayAct s := by
  unfold MayAct
  rw [halted, seq]
  exact id

/-- A change beside the rail share that may set the sequencer's state. -/
theorem shareMoves_of_fields {s t : State} (h : ({ t.link with rollWindow := none }, t.peers, t.rail, t.alert.halted)
    = (({ s.link with rollWindow := none } : Link), s.peers, s.rail, s.alert.halted)) (acts : MayAct t → MayAct s) : ShareMoves s t := by
  obtain ⟨link, peers, rail, halted⟩ : _ ∧ _ ∧ _ ∧ _ := by simpa only [Prod.mk.injEq] using h
  exact .single (.beside s t ⟨link, peers, rail, halted, acts⟩)

/-- A change beside the rail share and the sequencer's state. -/
theorem shareMoves_of_eq {s t : State} (h : ({ t.link with rollWindow := none }, t.peers, t.rail, t.alert.halted, t.run.seq)
    = (({ s.link with rollWindow := none } : Link), s.peers, s.rail, s.alert.halted, s.run.seq)) : ShareMoves s t := by
  obtain ⟨link, peers, rail, halted, seq⟩ : _ ∧ _ ∧ _ ∧ _ ∧ _ := by simpa only [Prod.mk.injEq] using h
  exact .single (.beside s t ⟨link, peers, rail, halted, mayAct_congr halted seq⟩)

theorem LinkSame.share {s t : State} (h : LinkSame s t) (alert : t.alert = s.alert) (acts : MayAct t → MayAct s) : ShareMoves s t :=
  .single (.beside s t ⟨by rw [h.link], h.peers, h.rail, by rw [alert], acts⟩)

theorem OnlyCwc.share {s t : State} (h : OnlyCwc s t) : ShareMoves s t := by
  rw [h.eq]
  exact shareMoves_of_eq rfl

theorem shareMoves_hand {f : Frame} (h : f.kind ≠ .claim) (s : State) : ShareMoves s (handFrame f s) := .single (.hand s f h)

theorem shareMoves_ite {c : Prop} [Decidable c] {s t u : State} (ht : ShareMoves s t) (hu : ShareMoves s u) :
    ShareMoves s (if c then t else u) := by
  split
  · exact ht
  · exact hu

theorem shareMoves_foldl {f : State → Site → State} (hf : ∀ s i, ShareMoves s (f s i)) (l : List Site) (s : State) :
    ShareMoves s (l.foldl f s) := by
  induction l generalizing s with
  | nil => exact .refl
  | cons i l ih => exact (hf s i).trans (ih _)

/-! ## The head, the Sync Unit and the end of a run -/

theorem shareMoves_hciDue {s t : State} (h : hciDue s = some t) : ShareMoves s t := by
  obtain ⟨_, alert, _, seq⟩ := hciDue_leaves h
  exact (linkSame_hciDue h).share alert (mayAct_congr (by rw [alert]) seq)

theorem shareMoves_hciPump (s : State) : ShareMoves s (hciPump s) := by
  unfold hciPump
  cases h : hciDue s with
  | none => exact .refl
  | some t => exact shareMoves_hciDue h

theorem shareMoves_endRun (cause : EndCause) (s : State) : ShareMoves s (endRun cause s) := by
  by_cases hq : s.run.seq = .idle
  · rw [endRun_idle cause hq]
  · exact (linkSame_endRun cause s).share (leaves_endRun cause s).alert fun _ => mayAct_of_active hq

theorem shareMoves_unitDue {s t : State} (h : unitDue s = some t) : ShareMoves s t := by
  have alert := (leaves_unitDue h).alert
  exact (linkSame_unitDue h).share alert (mayAct_congr (by rw [alert]) (unitDue_over h).1)

theorem shareMoves_syncPassed (s : State) : ShareMoves s (syncPassed s) := by
  unfold syncPassed
  split
  · exact shareMoves_ite (shareMoves_of_eq (by rfl)) .refl
  · exact shareMoves_of_eq rfl
  · exact shareMoves_of_eq rfl
  · exact .refl

theorem shareMoves_evaluateSync (s : State) : ShareMoves s (evaluateSync s) := by
  unfold evaluateSync
  split
  · exact shareMoves_ite (.trans (shareMoves_of_eq (by rfl)) (shareMoves_syncPassed _)) .refl
  · exact .refl

theorem shareMoves_markStep (s : State) : ShareMoves s (markStep s) := by
  unfold markStep
  split
  · exact shareMoves_syncPassed s
  · exact .trans (shareMoves_of_eq (by rfl)) ((shareMoves_hand (by nofun) _).trans (shareMoves_evaluateSync _))

theorem shareMoves_joinGroup (g : Group) (s : State) : ShareMoves s (joinGroup g s) :=
  .trans (shareMoves_of_eq (by rfl)) (shareMoves_hand (by nofun) _)

theorem shareMoves_leaveGroup (s : State) : ShareMoves s (leaveGroup s) := by
  unfold leaveGroup
  split
  · exact .refl
  · exact .trans (shareMoves_of_eq (by rfl)) (.trans (.single (.unmark _)) (shareMoves_hand (by nofun) _))

theorem shareMoves_syncTimedOut (s : State) : ShareMoves s (syncTimedOut s) := by
  unfold syncTimedOut
  split
  · exact shareMoves_of_eq rfl
  · exact .refl

theorem shareMoves_finishRunEnd (cause : EndCause) {s : State} (hs : MayAct s) : ShareMoves s (finishRunEnd cause s) := by
  obtain ⟨alert, link, peers, rail, _, _⟩ := finishRunEnd_others cause s
  exact shareMoves_of_fields (by rw [link, peers, rail, alert]) fun _ => hs

/-! ## The sequencer -/

theorem shareMoves_runVisits (p : Phase) (s : State) : ShareMoves s (runVisits p s) :=
  shareMoves_ite (shareMoves_of_eq (by rfl)) (shareMoves_of_eq (by rfl))

theorem shareMoves_beginPhase (rec : StepRecord) (s : State) : ShareMoves s (beginPhase rec s) := by
  cases rec with
  | erase | program => exact shareMoves_ite (.trans (shareMoves_of_eq (by rfl)) (shareMoves_runVisits _ _)) (shareMoves_of_eq (by rfl))
  | verify =>
    have first : ShareMoves s { s with run := { s.run with pass := 1, restarted := false } } := shareMoves_of_eq rfl
    exact first.trans (shareMoves_runVisits _ _)
  | dwell => exact shareMoves_of_eq rfl
  | sync => exact .trans (shareMoves_of_eq (by rfl)) (shareMoves_markStep _)

theorem shareMoves_claimForPass (reload : Bool) {s : State} (hs : MayAct s) : ShareMoves s (claimForPass reload s) := by
  refine shareMoves_ite (.trans (shareMoves_of_eq (by rfl)) (shareMoves_endRun _ _)) ?_
  cases reload with
  | false => exact .tail (shareMoves_of_eq (by rfl)) (.demand _ _ hs)
  | true => exact .tail (shareMoves_of_eq (by rfl)) (.demand _ _ hs)

theorem shareMoves_startPass {s : State} (hs : MayAct s) : ShareMoves s (startPass s) :=
  shareMoves_ite (shareMoves_of_eq (by rfl))
    (shareMoves_ite (shareMoves_of_eq (by rfl)) (.trans (shareMoves_of_eq (by rfl)) (shareMoves_claimForPass _ hs)))

theorem shareMoves_reenterSupply (b : Bool) {s : State} (hs : MayAct s) : ShareMoves s (reenterSupply b s) :=
  shareMoves_ite (.trans (shareMoves_of_eq (by rfl)) (shareMoves_runVisits _ _)) (shareMoves_claimForPass _ hs)

theorem shareMoves_endPass (s : State) : ShareMoves s (endPass s) := by
  have released : ShareMoves s (if (s.run.passDemand != 0) = true then releasePass s else s) :=
    shareMoves_ite (.single (.release s)) .refl
  exact shareMoves_ite (released.trans (shareMoves_of_eq (by rfl))) (released.trans (shareMoves_of_eq (by rfl)))

theorem shareMoves_exitStep (s : State) : ShareMoves s (exitStep s) :=
  shareMoves_ite (.trans (shareMoves_of_eq (by rfl)) (shareMoves_endRun _ _)) (shareMoves_of_eq (by rfl))

theorem shareMoves_becomePaused (stage : Stage) {s : State} (hs : MayAct s) : ShareMoves s (becomePaused stage s) :=
  (linkSame_becomePaused stage s).share (leaves_becomePaused stage s).alert fun _ => hs

theorem shareMoves_teardownDue {cause : EndCause} {s t : State} (hs : MayAct s) (h : teardownDue cause s = some t) : ShareMoves s t := by
  unfold teardownDue at h
  split at h
  · obtain ⟨_, h⟩ := Option.ite_none_left_eq_some.mp h
    split at h
    · cases h; exact shareMoves_finishRunEnd _ hs
    · cases h
      exact .trans (.tail (shareMoves_of_eq (by rfl)) (.giveUp { s with run := { s.run with teardown := .frames } } hs))
        (shareMoves_leaveGroup _)
  · obtain ⟨_, h⟩ := Option.ite_none_left_eq_some.mp h
    obtain ⟨_, h⟩ := Option.ite_none_left_eq_some.mp h
    cases h
    exact shareMoves_finishRunEnd _ hs

theorem shareMoves_enterDue {k : Nat} {s t : State} (hs : MayAct s) (h : enterDue k s = some t) : ShareMoves s t := by
  have alert := (leaves_enterDue h).alert
  unfold enterDue at h
  split at h
  · cases h; exact (linkSame_enterStep _ _ s).share alert fun _ => hs
  · cases h

theorem shareMoves_runningDue {s t : State} (hs : MayAct s) (h : runningDue s = some t) : ShareMoves s t := by
  have alert := (leaves_runningDue h).alert
  unfold runningDue at h
  cases hg : s.run.stage with
  | idle | contact | dwell | sync => simp [hg] at h
  | enter k => simp only [hg] at h; exact shareMoves_enterDue hs h
  | begin =>
    simp only [hg, Option.map_eq_some_iff] at h
    obtain ⟨rec, _, rfl⟩ := h
    exact shareMoves_beginPhase rec s
  | passStart => simp only [hg, Option.some.injEq] at h; subst h; exact shareMoves_startPass hs
  | reenter b =>
    simp only [hg, Option.ite_none_left_eq_some, Option.some.injEq] at h
    obtain ⟨_, rfl⟩ := h
    exact shareMoves_reenterSupply b hs
  | supply =>
    simp only [hg, Option.ite_none_right_eq_some, Option.some.injEq] at h
    obtain ⟨_, rfl⟩ := h
    exact shareMoves_runVisits _ s
  | visits =>
    simp only [hg, Option.ite_none_left_eq_some] at h
    obtain ⟨_, h⟩ := h
    split at h
    · obtain ⟨_, h⟩ := Option.ite_none_left_eq_some.mp h
      cases h; exact shareMoves_endPass s
    · obtain ⟨_, h⟩ := Option.ite_none_right_eq_some.mp h
      cases h; exact (linkSame_advanceVisit s).share alert fun _ => hs
  | closing =>
    simp only [hg, Option.ite_none_right_eq_some, Option.some.injEq] at h
    obtain ⟨_, rfl⟩ := h
    exact shareMoves_of_eq rfl
  | exit =>
    simp only [hg, Option.ite_none_right_eq_some, Option.some.injEq] at h
    obtain ⟨_, rfl⟩ := h
    exact shareMoves_exitStep s

theorem shareMoves_pausingDue {s t : State} (hs : MayAct s) (h : pausingDue s = some t) : ShareMoves s t := by
  unfold pausingDue at h
  cases hg : s.run.stage with
  | idle | contact => simp [hg] at h
  | enter k => simp only [hg] at h; exact shareMoves_enterDue hs h
  | begin | passStart | dwell | sync => simp only [hg, Option.some.injEq] at h; subst h; exact shareMoves_becomePaused _ hs
  | reenter b =>
    simp only [hg, Option.ite_none_left_eq_some, Option.some.injEq] at h
    obtain ⟨_, rfl⟩ := h
    exact shareMoves_becomePaused _ hs
  | supply =>
    simp only [hg, Option.ite_none_right_eq_some, Option.some.injEq] at h
    obtain ⟨_, rfl⟩ := h
    exact shareMoves_becomePaused _ hs
  | visits =>
    simp only [hg, Option.ite_none_left_eq_some] at h
    obtain ⟨_, h⟩ := h
    repeat' split at h
    · cases h; exact shareMoves_endPass s
    · cases h; exact shareMoves_becomePaused _ hs
    · cases h; exact shareMoves_becomePaused _ hs
    · cases h
    · cases h; exact .single (.giveUp s hs)
    · cases h
  | closing =>
    simp only [hg, Option.ite_none_right_eq_some, Option.some.injEq] at h
    obtain ⟨_, rfl⟩ := h
    exact shareMoves_of_eq rfl
  | exit =>
    simp only [hg, Option.ite_none_right_eq_some, Option.some.injEq] at h
    obtain ⟨_, rfl⟩ := h
    exact shareMoves_exitStep s

/-- Every own action of the card is such a chain; the sequencer acts only with a run in progress. -/
theorem shareMoves_nextAction {s t : State} (h : nextAction s = some t) : ShareMoves s t := by
  rcases nextAction_cases h with h | ⟨_, h⟩ | ⟨_, _, h⟩
  · exact shareMoves_hciDue h
  · exact shareMoves_unitDue h
  · have hs : MayAct s := mayAct_of_active fun idle => by rw [sequencerDue_idle idle] at h; cases h
    unfold sequencerDue at h
    split at h
    · cases h
    · exact shareMoves_teardownDue hs h
    · exact shareMoves_runningDue hs h
    · obtain ⟨u, hu, rfl⟩ := Option.map_eq_some_iff.mp h
      exact (shareMoves_pausingDue hs hu).trans (shareMoves_of_eq (by rfl))
    · cases h

theorem ShareMoves.settled {s t : State} (h : ShareMoves s t) : ShareMoves s (settle t) :=
  settle_keeps (P := ShareMoves s) (fun _ _ hn hs => hs.trans (shareMoves_nextAction hn)) t h

end Sys2Proof.Machine
end

section
/-! The commands as such chains: each command that is neither of the link nor a reset or a halt is one, so a statement that the moves keep
and that the few others keep is an invariant of the card. -/

namespace Sys2Proof.Machine

/-! ## Served commands -/

theorem shareMoves_respond (b : Block) (r : Response) (s : State) : ShareMoves s (respond b r s) := (onlyCwc_respond b r s).share

theorem shareMoves_respondWith (b : Block) (r : Response) (data : List Byte) (s : State) : ShareMoves s (respondWith b r data s) :=
  (onlyCwc_respondWith b r data s).share

theorem shareMoves_takeBlock {s s0 : State} {b : Block} (h : takeBlock s = some (b, s0)) : ShareMoves s s0 := by
  rw [takeBlock_eq h]
  exact shareMoves_of_eq rfl

/-- Serving is a chain when the owner's work is, on a card that passes the window checks. -/
theorem shareMoves_serve {c : Cmd} {owner : Block → State → State} {s : State}
    (ho : ∀ b x, windowChecks c b x = none → ShareMoves x (owner b x)) : ShareMoves s (serve c owner s) := by
  rcases serve_cases c owner s with hs | ⟨b, s0, ht, _, ⟨r, _, hs⟩ | ⟨hw, hs⟩⟩
  · rw [hs]
  · rw [hs]; exact (shareMoves_takeBlock ht).trans (shareMoves_respond b r s0)
  · rw [hs]; exact (shareMoves_takeBlock ht).trans (ho b s0 hw)

theorem shareMoves_guarded {b : Block} {conds : List (Bool × Response)} {act : State → State} {s : State} (ha : ShareMoves s (act s)) :
    ShareMoves s (guarded b conds act s) := by
  unfold guarded
  split
  · exact shareMoves_respond _ _ s
  · exact ha

/-- A served command that changes other blocks and completes. -/
theorem shareMoves_serve_respond {c : Cmd} {conds : Block → State → List (Bool × Response)} {act : Block → State → State} {s : State}
    (ha : ∀ b x, ShareMoves x (act b x)) :
    ShareMoves s (serve c (fun b x => guarded b (conds b x) (fun y => respond b .ok (act b y)) x) s) :=
  shareMoves_serve fun b x _ => shareMoves_guarded ((ha b x).trans (shareMoves_respond b .ok _))

/-- The window refuses every command but the reads on a HALTED card (R176, R181). -/
theorem normal_of_served {c : Cmd} {b : Block} {s : State} (hc : c.isRead = false) (hw : windowChecks c b s = none) :
    s.alert.halted = false := by
  cases hh : s.alert.halted with
  | false => rfl
  | true => rw [windowChecks_halted hh hc] at hw; cases hw

theorem mayAct_of_served {c : Cmd} {b : Block} {s : State} (hc : c.isRead = false) (hw : windowChecks c b s = none) : MayAct s :=
  mayAct_of_normal (normal_of_served hc hw)

theorem shareMoves_readFailLog (b : Block) (s : State) : ShareMoves s (readFailLogOwner b s) := by
  unfold readFailLogOwner
  split
  · exact shareMoves_respond _ _ s
  · exact shareMoves_guarded (.trans (b := updSite _ _ s) (shareMoves_of_eq (by rfl)) (shareMoves_respondWith _ _ _ _))

theorem shareMoves_startRun (b : Block) {s : State} (hs : MayAct s) : ShareMoves s (startRun b s) :=
  .trans (shareMoves_of_fields (by rfl) fun _ => hs) (shareMoves_hciPump _)

theorem shareMoves_pauseTakesEffect {s : State} (hs : MayAct s) : ShareMoves s (pauseTakesEffect s) := by
  have pausing : ShareMoves s (recordResume { s with run := { s.run with seq := .pausing, heldPause := false } }) :=
    shareMoves_of_fields rfl fun _ => hs
  exact shareMoves_ite (pausing.tail (.giveUp _ (mayAct_of_active (by nofun)))) pausing

theorem shareMoves_acceptPause (b : Block) {s : State} (hs : MayAct s) : ShareMoves s (acceptPause b s) :=
  shareMoves_ite (shareMoves_of_eq (by rfl)) (ShareMoves.settled (.trans (shareMoves_of_eq (by rfl)) (shareMoves_pauseTakesEffect hs)))

theorem shareMoves_finishPause (r : Response) (s : State) : ShareMoves s (finishPause r s) := (onlyCwc_finishPause r s).share

theorem shareMoves_releaseSyncPass (s : State) : ShareMoves s (releaseSyncPass s) :=
  shareMoves_ite (shareMoves_ite (shareMoves_of_eq (by rfl)) (shareMoves_of_eq (by rfl))) .refl

theorem shareMoves_resumeRun {s : State} (hs : MayAct s) : ShareMoves s (resumeRun s) := by
  have cancelled : ShareMoves s (cancelPausing s) := shareMoves_of_fields rfl fun _ => hs
  have left : ShareMoves s (leavePaused s) := shareMoves_of_fields rfl fun _ => hs
  unfold resumeRun
  split
  · exact .trans (shareMoves_of_eq (by rfl)) (shareMoves_finishPause _ _)
  · exact cancelled.trans ((shareMoves_releaseSyncPass _).trans (shareMoves_finishPause _ _))
  · exact left.trans (shareMoves_releaseSyncPass _)
  · exact .refl

theorem shareMoves_resumeOwner (b : Block) {s : State} (hs : MayAct s) : ShareMoves s (resumeOwner b s) :=
  shareMoves_guarded (ShareMoves.settled (((shareMoves_resumeRun hs).trans (shareMoves_of_eq (by rfl))).trans (shareMoves_respond _ _ _)))

theorem shareMoves_abortOwner (b : Block) (s : State) : ShareMoves s (abortOwner b s) :=
  shareMoves_guarded (ShareMoves.settled (.trans (shareMoves_of_eq (by rfl)) (shareMoves_endRun _ _)))

/-! ## Messages of the head -/

theorem shareMoves_continueStart (s : State) : ShareMoves s (continueStart s) := by
  have joined : ShareMoves s (match s.run.group with | some g => joinGroup g s | none => s) := by
    split
    · exact shareMoves_joinGroup _ s
    · exact .refl
  exact shareMoves_ite .refl (shareMoves_ite (shareMoves_endRun _ s) (joined.trans (shareMoves_of_eq (by rfl))))

theorem shareMoves_takeContact (mask : SiteMask) (s : State) : ShareMoves s (takeContact mask s) :=
  shareMoves_ite (ShareMoves.settled (.trans (shareMoves_of_eq (by rfl)) (shareMoves_continueStart _))) (shareMoves_of_eq (by rfl))

theorem shareMoves_acceptEffect (r : Request) (s : State) : ShareMoves s (acceptEffect r s) := by
  cases r with
  | operate _ _ _ mask =>
    have started : ShareMoves s (startTimers mask s) := shareMoves_foldl (fun _ _ => (shareMoves_of_eq (by rfl))) _ s
    exact started.trans (shareMoves_of_eq (by rfl))
  | contactCheck | compare | drop | abandon => exact .refl

theorem shareMoves_takeAccept (s : State) : ShareMoves s (takeAccept s) := by
  unfold takeAccept
  split
  · exact shareMoves_ite (ShareMoves.settled (.trans (shareMoves_of_eq (by rfl)) (shareMoves_acceptEffect _ _))) (shareMoves_of_eq (by rfl))
  · exact shareMoves_of_eq rfl

theorem shareMoves_compareFailure (e : ResultEntry) (s : State) : ShareMoves s (compareFailure e s) := by
  cases hu : s.run.inflight with
  | none => unfold compareFailure; rw [hu]
  | some u => rw [compareFailure_eq hu]; exact shareMoves_of_eq rfl

theorem shareMoves_resultEntries (mask : SiteMask) (named : List Site) (es : List ResultEntry) (s : State) :
    ShareMoves s (resultEntries mask named es s) := by
  induction es generalizing named s with
  | nil => exact .refl
  | cons e es ih => exact (shareMoves_ite (shareMoves_compareFailure e s) (shareMoves_of_eq (by rfl))).trans (ih _ _)

theorem shareMoves_takeResult (es : List ResultEntry) (s : State) : ShareMoves s (takeResult es s) := by
  unfold takeResult
  split
  next mask _ _ _ =>
    have entered : ShareMoves s (resultEntries mask [] es (hciIdle s)) :=
      .trans (shareMoves_of_eq (by rfl)) (shareMoves_resultEntries _ _ _ _)
    exact ShareMoves.settled (entered.trans (shareMoves_of_eq (by rfl)))
  · exact shareMoves_of_eq rfl

theorem shareMoves_readySite (i : Site) (s : State) : ShareMoves s (readySite i s) := by
  have judged : ∀ v x, ShareMoves x (judgeBusyTime i v x) := fun v x => by
    cases ht : x.timers.timed with
    | none => unfold judgeBusyTime; rw [ht]
    | some t => rw [judgeBusyTime_eq ht]; exact shareMoves_of_eq rfl
  exact shareMoves_ite (.trans (shareMoves_of_eq (by rfl)) (judged _ _)) (shareMoves_of_eq (by rfl))

theorem shareMoves_takeReady (mask : SiteMask) (n : Nat) (s : State) : ShareMoves s (takeReady mask n s) :=
  ShareMoves.settled (.trans (b := elapse n s) (shareMoves_of_eq (by rfl)) (shareMoves_foldl (fun s i => shareMoves_readySite i s) _ _))

theorem shareMoves_takeOvercurrent (i : Site) (s : State) : ShareMoves s (takeOvercurrent i s) := by
  have trip : ShareMoves s (tripSite i s) := shareMoves_ite .refl (shareMoves_of_eq (by rfl))
  have tripped : ShareMoves s (cancelDrop i (tripSite i s)) := trip.trans (shareMoves_of_eq rfl)
  have recorded : ∀ x, ShareMoves x (recordFailure i .alarm 0 none x) := fun x => by
    rw [recordFailure_eq]
    exact shareMoves_of_eq rfl
  have left : ShareMoves s (leaveUnit i (recordFailure i .alarm 0 none (cancelDrop i (tripSite i s)))) :=
    (tripped.trans (recorded _)).trans (shareMoves_of_eq (by rfl))
  exact shareMoves_ite .refl (ShareMoves.settled (shareMoves_ite left tripped))

theorem shareMoves_takeHeadFault (s : State) : ShareMoves s (takeHeadFault s) :=
  ShareMoves.settled ((shareMoves_endRun .headFault s).trans (shareMoves_of_eq (by rfl)))

/-! ## The ends of the running times -/

theorem shareMoves_passDeadline (s : State) : ShareMoves s (passDeadline s) := by
  have filled : ∀ k x, ShareMoves x (fillError k x) := fun k x => by
    obtain ⟨_, he⟩ := fillError_others k x
    rw [he]
    exact shareMoves_of_eq rfl
  unfold passDeadline
  split
  · exact .refl
  next o _ =>
    have idle := (filled o.request.kind (elapse o.deadline s)).trans (c := hciIdle _) (shareMoves_of_eq (by rfl))
    have idled := idle.trans (shareMoves_hciPump _)
    exact ShareMoves.settled (.trans (b := elapse o.deadline s) (shareMoves_of_eq (by rfl)) (idled.trans (shareMoves_endRun _ _)))

theorem shareMoves_passHighLimit (i : Site) (s : State) : ShareMoves s (passHighLimit i s) := by
  have expired : ∀ t x, ShareMoves x (expireSite i t x) := fun t x => by
    unfold expireSite
    rw [busyFailure_eq]
    exact shareMoves_of_eq rfl
  unfold passHighLimit
  split
  · exact .refl
  · exact shareMoves_ite (ShareMoves.settled (.trans (b := elapse _ s) (shareMoves_of_eq (by rfl)) (expired _ _))) .refl

theorem shareMoves_passDwell (s : State) : ShareMoves s (passDwell s) :=
  shareMoves_ite (ShareMoves.settled (shareMoves_of_eq (by rfl))) .refl

theorem shareMoves_decideSync (s : State) : ShareMoves s (decideSync s) := by
  refine shareMoves_ite .refl ?_
  split
  · exact shareMoves_of_eq rfl
  · exact shareMoves_endRun _ s

theorem shareMoves_passSyncTimeout (s : State) : ShareMoves s (passSyncTimeout s) := by
  unfold passSyncTimeout
  split
  · exact .refl
  · exact shareMoves_ite (ShareMoves.settled (.trans (shareMoves_of_eq (by rfl))
      ((shareMoves_syncTimedOut _).trans (shareMoves_decideSync _)))) .refl

/-- The wait for a claim ends in a run that is RUNNING alone. -/
theorem shareMoves_passSupplyWait (s : State) : ShareMoves s (passSupplyWait s) := by
  unfold passSupplyWait
  split
  · exact .refl
  next r _ =>
    split
    next waits =>
      simp only [supplyWaits, countingAt, Bool.and_eq_true, beq_iff_eq] at waits
      obtain ⟨⟨running, _⟩, _⟩ := waits
      have active : (supplyElapsed r s).run.seq ≠ .idle := fun idle => nomatch running.symm.trans idle
      have given : ShareMoves s (giveUp (supplyElapsed r s)) :=
        .tail (shareMoves_of_eq (by rfl)) (.giveUp _ (mayAct_of_active active))
      exact ShareMoves.settled (given.trans (shareMoves_endRun _ _))
    · exact .refl

theorem shareMoves_passResumeGuard (s : State) : ShareMoves s (passResumeGuard s) := by
  have stopped : ShareMoves s (guardElapsed s) := shareMoves_of_eq (by rfl)
  refine shareMoves_ite .refl ?_
  dsimp only
  split
  next held =>
    have active : (guardElapsed s).run.seq ≠ .idle := fun idle => nomatch held.2.1.symm.trans idle
    exact ShareMoves.settled (stopped.trans (shareMoves_pauseTakesEffect (mayAct_of_active active)))
  · exact stopped

theorem shareMoves_alertRises (s : State) : ShareMoves s (alertRises s) := by
  have raised : ShareMoves s { s with alert := { s.alert with level := true } } := shareMoves_of_eq rfl
  refine shareMoves_ite .refl (shareMoves_ite (shareMoves_of_eq (by rfl)) (raised.trans ?_))
  unfold riseEffect
  split
  · exact ShareMoves.settled (shareMoves_endRun _ _)
  · exact shareMoves_of_eq rfl

/-! ## Every such command -/

/-- Every command but those of the link itself, the resets and RAIL_FAIL is a chain of moves. -/
theorem shareMoves_exec {c : Instr} {s t : State} (hc : touchesLink c = false) (he : exec c s = .next t) : ShareMoves s t := by
  cases c with
  | powerOnReset | backplaneReset | cardReset | railFail | rollWindowExpiry | frameStart | arbitrationLost | frameVoid | release | withdraw
  | leave | state | roll | mark | wait | claim => cases hc
  | windowWrite offset v => exact (onlyCwc_windowWrite he).share
  | postFirstByte | attentionFirstByte | attentionAcknowledge | railFailRelease =>
    obtain rfl := Host.Outcome.next.inj he
    exact shareMoves_of_eq rfl
  | post v => obtain rfl := Host.Outcome.next.inj he; exact (onlyCwc_takePost _ s).share
  | setProfile | defineStep | deleteSteps | setStopOption | siteRestore | clearResults | rewindLog =>
    obtain rfl := Host.Outcome.next.inj he
    exact shareMoves_serve_respond fun _ _ => shareMoves_of_eq rfl
  | run =>
    obtain rfl := Host.Outcome.next.inj he
    exact shareMoves_serve fun b x hw => shareMoves_guarded (shareMoves_startRun b (mayAct_of_served rfl hw))
  | readStatus | readResult | readPeers =>
    obtain rfl := Host.Outcome.next.inj he
    exact shareMoves_serve fun b x _ => shareMoves_respondWith b .ok _ x
  | readSite | readBadBlocks =>
    obtain rfl := Host.Outcome.next.inj he
    refine shareMoves_serve fun b x _ => ?_
    simp only [readSiteOwner, readBadBlocksOwner]
    split
    · exact shareMoves_respond _ _ x
    · exact shareMoves_respondWith _ _ _ x
  | readFailLog => obtain rfl := Host.Outcome.next.inj he; exact shareMoves_serve fun b x _ => shareMoves_readFailLog b x
  | snapshot =>
    obtain rfl := Host.Outcome.next.inj he
    refine shareMoves_serve fun b x _ => ?_
    unfold snapshotOwner
    split
    · exact shareMoves_respond _ _ x
    · exact .trans (b := setLatch _ x) (shareMoves_of_eq (by rfl)) (shareMoves_respond _ _ _)
  | readSnapshot =>
    obtain rfl := Host.Outcome.next.inj he
    refine shareMoves_serve fun b x _ => ?_
    unfold readSnapshotOwner
    split
    · exact .trans (b := setLatch none x) (shareMoves_of_eq (by rfl)) (shareMoves_respondWith _ _ _ _)
    · exact shareMoves_respondWith _ _ _ x
  | pause =>
    obtain rfl := Host.Outcome.next.inj he
    exact shareMoves_serve fun b x hw => shareMoves_guarded (shareMoves_acceptPause b (mayAct_of_served rfl hw))
  | resume =>
    obtain rfl := Host.Outcome.next.inj he
    exact shareMoves_serve fun b x hw => shareMoves_resumeOwner b (mayAct_of_served rfl hw)
  | abort => obtain rfl := Host.Outcome.next.inj he; exact shareMoves_serve fun b x _ => shareMoves_abortOwner b x
  | raiseAlert | clearAlert =>
    obtain rfl := Host.Outcome.next.inj he
    exact shareMoves_serve fun b x _ => .trans (shareMoves_of_eq (by rfl)) (shareMoves_respond b .ok _)
  | contact mask => obtain rfl := Host.Outcome.next.inj he; exact shareMoves_takeContact mask s
  | accept => obtain rfl := Host.Outcome.next.inj he; exact shareMoves_takeAccept s
  | result es => obtain rfl := Host.Outcome.next.inj he; exact shareMoves_takeResult es s
  | ready mask n => obtain rfl := Host.Outcome.next.inj he; exact shareMoves_takeReady mask n s
  | alarmSiteOvercurrent i => obtain rfl := Host.Outcome.next.inj he; exact shareMoves_takeOvercurrent i s
  | alarmHeadFault => obtain rfl := Host.Outcome.next.inj he; exact shareMoves_takeHeadFault s
  | replyDeadline => obtain rfl := Host.Outcome.next.inj he; exact shareMoves_passDeadline s
  | highLimitExpiry i => obtain rfl := Host.Outcome.next.inj he; exact shareMoves_passHighLimit i s
  | dwellExpiry => obtain rfl := Host.Outcome.next.inj he; exact shareMoves_passDwell s
  | syncTimeout => obtain rfl := Host.Outcome.next.inj he; exact shareMoves_passSyncTimeout s
  | supplyWaitExpiry => obtain rfl := Host.Outcome.next.inj he; exact shareMoves_passSupplyWait s
  | resumeGuardExpiry => obtain rfl := Host.Outcome.next.inj he; exact shareMoves_passResumeGuard s
  | alertRise => obtain rfl := Host.Outcome.next.inj he; exact shareMoves_alertRises s
  | alertFall => obtain rfl := Host.Outcome.next.inj he; exact shareMoves_ite .refl (shareMoves_of_eq (by rfl))

/-! ## Every step -/

/-- What makes a statement about the rail share an invariant: the moves keep it, and so do the operations of the link, the resets and the
halt. -/
structure ShareRule (P : State → Prop) : Prop where
  move : ∀ {s t : State}, ShareMove s t → P s → P t
  reset : ∀ (straps : Straps) (lines : Lines) (s : State), P (resetCard straps lines s)
  cardReset : ∀ (straps : Straps) {s : State}, s.alert.halted = false → P (resetBlocks straps s)
  halt : ∀ s : State, P (haltCard s)
  window : ∀ {s : State}, P s →
    P { s with link := { s.link with rollWindow := none, st := if s.link.st = .rolling then .up else s.link.st } }
  start : ∀ {s : State}, P s → P (startFrame s)
  lose : ∀ {s : State}, P s → P (loseAttempt s)
  void : ∀ {s : State}, P s → P (voidAttempt s)
  frame : ∀ (x : Station) (f : Frame) {s : State}, P s → P (takeFrame x f s)

namespace ShareRule

variable {P : State → Prop}

theorem moves (rule : ShareRule P) {s t : State} (h : ShareMoves s t) (hs : P s) : P t := h.keeps (fun _ _ => rule.move) hs

theorem settled (rule : ShareRule P) {s : State} (h : P s) : P (settle s) := rule.moves (ShareMoves.settled .refl) h

/-- CARD-RESET is served on a NORMAL card alone (R176, R188). -/
theorem served_cardReset (rule : ShareRule P) (straps : Straps) {s : State} (h : P s) :
    P (serve .cardReset (cardResetOwner straps) s) := by
  rcases serve_cases .cardReset (cardResetOwner straps) s with hs | ⟨b, s0, ht, _, ⟨r, _, hs⟩ | ⟨hw, hs⟩⟩
  · rw [hs]; exact h
  · rw [hs]; exact rule.moves ((shareMoves_takeBlock ht).trans (shareMoves_respond b r s0)) h
  · obtain ⟨_, alert, _⟩ := endRunForReset_others s0
    have normal : (endRunForReset s0).alert.halted = false := by rw [alert]; exact normal_of_served rfl hw
    rw [hs, cardReset_eq]
    exact rule.moves (shareMoves_of_eq (by rfl)) (rule.cardReset straps normal)

theorem carried (rule : ShareRule P) (x : Station) (fo : Option Frame) {s : State} (h : P s) : P (Machine.carried x fo s) := by
  cases fo with
  | none => exact h
  | some f => exact rule.settled (rule.frame x f h)

theorem exec (rule : ShareRule P) {c : Instr} {s t : State} (he : Machine.exec c s = .next t) (h : P s) : P t := by
  cases hc : touchesLink c with
  | false => exact rule.moves (shareMoves_exec hc he) h
  | true =>
    cases c with
    | powerOnReset | backplaneReset => obtain rfl := Host.Outcome.next.inj he; exact rule.reset _ _ s
    | cardReset straps => obtain rfl := Host.Outcome.next.inj he; exact rule.served_cardReset straps h
    | railFail =>
      obtain rfl := Host.Outcome.next.inj he
      unfold railFails
      dsimp only
      split
      · exact rule.moves (shareMoves_of_eq (by rfl)) h
      · exact rule.halt _
    | rollWindowExpiry =>
      obtain rfl := Host.Outcome.next.inj he
      unfold passRollWindow
      split
      · exact h
      next r _ => exact rule.settled (rule.window (s := elapse r s) (rule.moves (shareMoves_of_eq (by rfl)) h))
    | frameStart => obtain rfl := Host.Outcome.next.inj he; exact rule.start h
    | arbitrationLost => obtain rfl := Host.Outcome.next.inj he; exact rule.settled (rule.lose h)
    | frameVoid => obtain rfl := Host.Outcome.next.inj he; exact rule.settled (rule.void h)
    | release | withdraw | leave | state | roll | mark | wait | claim => obtain rfl := Host.Outcome.next.inj he; exact rule.carried _ _ h
    | _ => cases hc

theorem step (rule : ShareRule P) {s t : State} (h : P s) (hst : Machine.step s = .next t) : P t := by
  unfold Machine.step at hst
  split at hst
  · obtain rfl := Host.Outcome.next.inj hst
    exact rule.moves (shareMoves_of_eq (by rfl)) h
  · exact rule.exec hst (rule.moves (shareMoves_of_eq (by rfl)) h)

end ShareRule

end Sys2Proof.Machine
end

section
/-! A pending CLAIM stays justified: whatever changes a figure of the claim rule has the rule evaluated again (R144, R145), and a CLAIM that
goes on the line fits the effective budget (R147). -/

namespace Sys2Proof.Machine

/-! ## The claim rule by its figures -/

/-- The four conditions of the claim rule for a demand (R144). -/
theorem claimRule_iff (s : State) (d : Nat) : claimRule s d = true ↔
    s.rail.seeking = true ∧ s.rail.givingUp = false ∧ (s.rail.st = .none ∨ s.rail.st = .waiting) ∧ s.link.st = .up
      ∧ d + tally s + needsAhead s ≤ s.link.effBudget := by
  have figures : ((d : Int) ≤ freeRail s ∧ (needsAhead s : Int) ≤ freeRail s - d)
      ↔ d + tally s + needsAhead s ≤ s.link.effBudget := by
    unfold freeRail
    omega
  unfold claimRule
  simp only [Bool.and_eq_true, Bool.or_eq_true, beq_iff_eq, decide_eq_true_eq, figures, Bool.not_eq_true', and_assoc]

theorem tally_congr {s t : State} (held : ∀ x : Station, t.peers[x].held = s.peers[x].held) : tally t = tally s :=
  congrArg List.sum (List.map_congr_left fun x _ => held x)

theorem needsAhead_congr {s t : State} (own : t.link.own = s.link.own) (waiters : t.rail.waiters = s.rail.waiters)
    (need : ∀ x : Station, t.peers[x].need = s.peers[x].need) : needsAhead t = needsAhead s := by
  unfold needsAhead
  rw [own, waiters]
  exact congrArg List.sum (List.map_congr_left fun x _ => by rw [need])

/-- The figures that the claim rule reads stand. -/
structure FiguresStand (s t : State) : Prop where
  st : t.link.st = s.link.st
  own : t.link.own = s.link.own
  effBudget : t.link.effBudget = s.link.effBudget
  rail : t.rail = s.rail
  held : ∀ x : Station, t.peers[x].held = s.peers[x].held
  need : ∀ x : Station, t.peers[x].need = s.peers[x].need

theorem figuresStand_of_eq {s t : State} (h : (t.link.st, t.link.own, t.link.effBudget, t.rail, t.peers)
    = (s.link.st, s.link.own, s.link.effBudget, s.rail, s.peers)) : FiguresStand s t := by
  obtain ⟨st, own, effBudget, rail, peers⟩ : _ ∧ _ ∧ _ ∧ _ ∧ _ := by simpa only [Prod.mk.injEq] using h
  exact ⟨st, own, effBudget, rail, fun x => by rw [peers], fun x => by rw [peers]⟩

theorem FiguresStand.trans {s t u : State} (h : FiguresStand s t) (h' : FiguresStand t u) : FiguresStand s u :=
  ⟨h'.st.trans h.st, h'.own.trans h.own, h'.effBudget.trans h.effBudget, h'.rail.trans h.rail, fun x => (h'.held x).trans (h.held x),
    fun x => (h'.need x).trans (h.need x)⟩

theorem FiguresStand.rule {s t : State} (h : FiguresStand s t) (d : Nat) : claimRule t d = claimRule s d := by
  have waiters : t.rail.waiters = s.rail.waiters := congrArg Rail.waiters h.rail
  rw [Bool.eq_iff_iff, claimRule_iff, claimRule_iff, tally_congr h.held, needsAhead_congr h.own waiters h.need, h.rail, h.st, h.effBudget]

/-- A justified CLAIM stays so while it and the figures of the rule stand. -/
theorem FiguresStand.justified {s t : State} (h : FiguresStand s t) (claim : t.link.out.claim = s.link.out.claim)
    (hs : ClaimJustified s) : ClaimJustified t := by
  intro u k hc
  rw [h.rule, h.rail]
  exact hs u k (claim.symm.trans hc)

theorem LinkSame.justified {s t : State} (h : LinkSame s t) (hs : ClaimJustified s) : ClaimJustified t :=
  (figuresStand_of_eq (by rw [h.link, h.rail, h.peers])).justified (by rw [h.link]) hs

theorem figuresStand_handFrame (f : Frame) (s : State) : FiguresStand s (handFrame f s) := by
  unfold handFrame
  split <;> exact figuresStand_of_eq rfl

/-- A frame of another kind handed over leaves the pending CLAIM. -/
theorem handFrame_claim {f : Frame} (hf : f.kind ≠ .claim) (s : State) : (handFrame f s).link.out.claim = s.link.out.claim := by
  unfold handFrame
  split
  · cases f with
    | claim => exact absurd rfl hf
    | _ => rfl
  · rfl

theorem justified_handFrame {f : Frame} (hf : f.kind ≠ .claim) {s : State} (h : ClaimJustified s) : ClaimJustified (handFrame f s) :=
  (figuresStand_handFrame f s).justified (handFrame_claim hf s) h

/-- An entry that keeps its held figure and its need. -/
theorem justified_updPeer {x : Station} {e : Peer → Peer} {s : State} (held : (e s.peers[x]).held = s.peers[x].held)
    (need : (e s.peers[x]).need = s.peers[x].need) (h : ClaimJustified s) : ClaimJustified (updPeer x e s) := by
  have entry : ∀ {α : Type} (g : Peer → α) (y : Station), g (e s.peers[x]) = g s.peers[x] →
      g (updPeer x e s).peers[y] = g s.peers[y] := fun g y hg => by
    rw [updPeer_get]
    split
    next hy => rw [hg, hy]
    · rfl
  have stands : FiguresStand s (updPeer x e s) :=
    ⟨rfl, rfl, rfl, rfl, fun y => entry Peer.held y held, fun y => entry Peer.need y need⟩
  exact stands.justified rfl h

/-! ## The pending CLAIM and its owner -/

theorem justified_of_no_claim {s : State} (h : s.link.out.claim = none) : ClaimJustified s := fun _ _ hc => nomatch h.symm.trans hc

/-- A pending CLAIM belongs to a station that seeks and is not giving up, so that the next evaluation decides on it (R145). -/
def ClaimSought (s : State) : Prop :=
  s.link.out.claim = none ∨ s.rail.ownDemand ≠ none ∧ s.rail.seeking = true ∧ s.rail.givingUp = false

theorem ClaimSought.of_rail {s t : State} (h : ClaimSought s)
    (claim : t.link.out.claim = none ∨ t.link.out.claim = s.link.out.claim ∧ t.rail.ownDemand = s.rail.ownDemand
      ∧ t.rail.seeking = s.rail.seeking ∧ t.rail.givingUp = s.rail.givingUp) : ClaimSought t := by
  unfold ClaimSought
  rcases claim with none | ⟨claim, demand, seeking, giving⟩
  · exact .inl none
  · rw [claim, demand, seeking, giving]
    exact h

theorem sought_of_justified {s : State} (h : ClaimJustified s) : ClaimSought s := by
  cases hc : s.link.out.claim with
  | none => exact .inl hc
  | some c =>
    obtain ⟨demand, rule⟩ := h c.1 c.2 hc
    obtain ⟨seeking, giving, _⟩ := (claimRule_iff s c.1).mp rule
    exact .inr ⟨Option.ne_none_iff_exists'.mpr ⟨_, demand⟩, seeking, giving⟩

/-- No CLAIM is pending while the station gives up or holds rail, or its link is not UP (R144). -/
theorem no_claim_of_justified {s : State} (h : ClaimJustified s)
    (still : s.rail.givingUp = true ∨ s.rail.st = .holding ∨ s.link.st ≠ .up) : s.link.out.claim = none := by
  cases hc : s.link.out.claim with
  | none => rfl
  | some c =>
    obtain ⟨_, giving, st, up, _⟩ := (claimRule_iff s c.1).mp (h c.1 c.2 hc).2
    rcases still with hg | hh | hl
    · exact absurd (hg.symm.trans giving) nofun
    · rw [hh] at st
      exact absurd st (by simp)
    · exact absurd up hl

/-! ## The evaluation of the claim rule -/

theorem claimHanded_claim {d : Nat} {s : State} (sends : linkSends s = true) : ∃ k, (claimHanded d s).link.out.claim = some (d, k) := by
  unfold claimHanded
  split
  next pending =>
    obtain ⟨c, hc, rfl⟩ := Option.map_eq_some_iff.mp pending
    exact ⟨c.2, hc⟩
  · rw [handFrame_sends _ sends]
    exact ⟨_, rfl⟩

theorem figuresStand_claimHanded (d : Nat) (s : State) : FiguresStand s (claimHanded d s) := by
  unfold claimHanded
  split
  · exact figuresStand_of_eq rfl
  · exact figuresStand_handFrame _ s

/-- The rule fulfilled: what is pending is a CLAIM of the demand (R144). -/
theorem justified_of_rule {d : Nat} {s : State} (demand : s.rail.ownDemand = some d) (rule : claimRule s d = true) :
    ClaimJustified (evaluateClaim s) := by
  obtain ⟨seeking, giving, _, up, _⟩ := (claimRule_iff s d).mp rule
  have evaluating : Evaluating d s := ⟨demand, seeking, giving, up⟩
  obtain ⟨k, pending⟩ := claimHanded_claim (d := d) evaluating.sends
  have stands := figuresStand_claimHanded d s
  have handed : ClaimJustified (claimHanded d s) := fun u j hc => by
    obtain ⟨rfl, rfl⟩ : d = u ∧ k = j := by simpa only [Option.some.injEq, Prod.mk.injEq] using pending.symm.trans hc
    exact ⟨by rw [stands.rail]; exact demand, (stands.rule d).trans rule⟩
  rw [evaluating.evaluated_rule rule]
  split
  · exact FiguresStand.justified (figuresStand_of_eq (by rfl)) rfl handed
  · exact handed

/-- The rule not fulfilled: no CLAIM is pending (R144). -/
theorem no_claim_of_rule {d : Nat} {s : State} (demand : s.rail.ownDemand = some d)
    (seeks : (s.rail.seeking && !s.rail.givingUp) = true) (rule : claimRule s d = false) : (evaluateClaim s).link.out.claim = none := by
  have removed : (removeFrame .claim s).link.out.claim = none := rfl
  unfold evaluateClaim
  rw [demand]
  dsimp only
  rw [if_pos seeks, if_neg (Bool.eq_false_iff.mp rule)]
  split
  · exact (handFrame_claim (by nofun) _).trans removed
  · exact removed

/-- After an evaluation of the claim rule the pending CLAIM is justified by the figures in force (R144, R145). -/
theorem justified_evaluateClaim {s : State} (h : ClaimSought s) : ClaimJustified (evaluateClaim s) := by
  rcases h with none | ⟨demanded, seeking, giving⟩
  · cases demand : s.rail.ownDemand with
    | none => unfold evaluateClaim; rw [demand]; exact justified_of_no_claim none
    | some d =>
      cases seeks : s.rail.seeking && !s.rail.givingUp with
      | false =>
        have still : evaluateClaim s = s := by
          unfold evaluateClaim
          rw [demand]
          exact if_neg (Bool.eq_false_iff.mp seeks)
        rw [still]
        exact justified_of_no_claim none
      | true =>
        cases rule : claimRule s d with
        | false => exact justified_of_no_claim (no_claim_of_rule demand seeks rule)
        | true => exact justified_of_rule demand rule
  · obtain ⟨d, demand⟩ := Option.ne_none_iff_exists'.mp demanded
    have seeks : (s.rail.seeking && !s.rail.givingUp) = true := by rw [seeking, giving]; rfl
    cases rule : claimRule s d with
    | false => exact justified_of_no_claim (no_claim_of_rule demand seeks rule)
    | true => exact justified_of_rule demand rule

/-! ## The moves of the rail share -/

theorem justified_seekDemand (d : Nat) {s : State} (giving : s.rail.givingUp = false) : ClaimJustified (seekDemand d s) :=
  justified_evaluateClaim (.inr ⟨nofun, rfl, giving⟩)

theorem justified_handDemand (d : Nat) {s : State} (h : ClaimJustified s) : ClaimJustified (handDemand d s) := by
  unfold handDemand
  split
  next giving => exact justified_of_no_claim (no_claim_of_justified h (.inl giving))
  next giving => exact justified_seekDemand d (Bool.eq_false_iff.mpr giving)

theorem justified_endGiveUp {s : State} (h : s.link.out.claim = none) : ClaimJustified (endGiveUp s) := by
  unfold endGiveUp
  dsimp only
  split
  · exact justified_seekDemand _ rfl
  · exact justified_of_no_claim h

theorem justified_giveUpSteps {s : State} (h : ClaimJustified s) : ClaimJustified (giveUpSteps s) := by
  unfold giveUpSteps
  split
  next giving =>
    have back : (giveBack s).link.out.claim = none := (giveBack_claimless s).1.trans (no_claim_of_justified h (.inl giving))
    dsimp only
    split
    · exact justified_endGiveUp back
    · split <;> exact justified_of_no_claim back
  · exact h

theorem justified_releasePass {s : State} (h : ClaimJustified s) : ClaimJustified (releasePass s) := by
  unfold releasePass
  split
  next holding =>
    have none := no_claim_of_justified h (.inr (.inl holding))
    exact justified_of_no_claim ((handFrame_claim (by nofun) _).trans none)
  · exact h

/-- Each move of an event keeps the pending CLAIM justified. -/
theorem ShareMove.justified {s t : State} (hm : ShareMove s t) (h : ClaimJustified s) : ClaimJustified t := by
  cases hm with
  | beside _ hb =>
    have stands : FiguresStand s t := ⟨hb.link_field Link.st fun _ => rfl, hb.link_field Link.own fun _ => rfl,
      hb.link_field Link.effBudget fun _ => rfl, hb.rail, fun x => by rw [hb.peers], fun x => by rw [hb.peers]⟩
    exact stands.justified (hb.link_field (fun l => l.out.claim) fun _ => rfl) h
  | hand f hf => exact justified_handFrame hf h
  | unmark => exact FiguresStand.justified (figuresStand_of_eq (by rfl)) rfl h
  | demand d => exact justified_handDemand d h
  | giveUp => exact justified_of_no_claim (giveUp_seeks_nothing s).2.1
  | release => exact justified_releasePass h

/-! ## The attempt on the line -/

theorem justified_attemptFailed (k : FrameKind) {s : State} (h : ClaimJustified s) : ClaimJustified (attemptFailed k s) := by
  refine justified_giveUpSteps ?_
  split
  · split
    · exact justified_evaluateClaim (sought_of_justified h)
    · exact justified_of_no_claim rfl
  · split
    · exact h
    · exact FiguresStand.justified (figuresStand_of_eq (by rfl)) rfl h
  · exact h

theorem justified_loseAttempt {s : State} (h : ClaimJustified s) : ClaimJustified (loseAttempt s) := by
  unfold loseAttempt
  split
  · exact h
  · exact justified_attemptFailed _ (FiguresStand.justified (figuresStand_of_eq (by rfl)) rfl h)

/-- A link gone MUTE, and one that did not send before, has no CLAIM pending (R127, R144). -/
theorem no_claim_goMute {s : State} (h : ClaimJustified s) : (goMute s).link.out.claim = none := by
  cases sends : linkSends s with
  | true => rw [goMute_sends sends, (linkSame_endRun _ _).link]; rfl
  | false =>
    rw [goMute_silent sends]
    refine no_claim_of_justified h (.inr (.inr fun up => ?_))
    unfold linkSends at sends
    rw [up] at sends
    cases sends

theorem justified_objected {s : State} (h : ClaimJustified s) : ClaimJustified (objected s) :=
  FiguresStand.justified (figuresStand_of_eq (by rfl)) rfl h

theorem justified_voidAttempt {s : State} (h : ClaimJustified s) : ClaimJustified (voidAttempt s) := by
  cases line : s.link.attempt with
  | none => rw [voidAttempt_free line]; exact h
  | some a =>
    rcases Nat.lt_or_ge s.link.objections 7 with few | many
    · rw [voidAttempt_few line few]; exact justified_attemptFailed _ (justified_objected h)
    · rw [voidAttempt_eighth line many]; exact justified_of_no_claim (no_claim_goMute (justified_objected h))

/-! ## A carried frame -/

/-- A lowered budget has a seeking station evaluate the claim rule (R152). -/
theorem justified_budgetLowered {s : State} (h : ClaimSought s) : ClaimJustified (budgetLowered s) := by
  unfold budgetLowered
  split
  · split
    · refine justified_evaluateClaim ?_
      split
      · have same := linkSame_endRun .supplyRange s
        exact h.of_rail (.inr ⟨by rw [same.link], by rw [same.rail], by rw [same.rail], by rw [same.rail]⟩)
      · exact h
    next unsought => exact justified_of_no_claim (h.resolve_right fun sought => unsought sought.2.1)
  next undemanded => exact justified_of_no_claim (h.resolve_right fun sought => sought.1 undemanded)

theorem justified_takeBudget (x : Station) (b : Nat) {s : State} (h : ClaimJustified s) : ClaimJustified (takeBudget x b s) := by
  have entry : ClaimJustified (updPeer x (fun e => { e with budget := some (clampBudget b) }) s) := justified_updPeer rfl rfl h
  unfold takeBudget
  dsimp only
  split
  · exact justified_budgetLowered ((sought_of_justified entry).of_rail (.inr ⟨rfl, rfl, rfl, rfl⟩))
  · exact entry

theorem justified_takePresence (x : Station) (f : Frame) {s : State} (h : ClaimJustified s) : ClaimJustified (takePresence x f s) := by
  have entry : ClaimJustified (updPeer x (fun e => { e with present := true }) s) := justified_updPeer rfl rfl h
  unfold takePresence
  dsimp only
  split
  · exact justified_takeBudget x _ entry
  · exact entry

theorem justified_evaluateSync {s : State} (h : ClaimJustified s) : ClaimJustified (evaluateSync s) :=
  (shareMoves_evaluateSync s).keeps (fun _ _ hm => hm.justified) h

/-- A frame applied to the tables leaves the pending CLAIM and what its owner seeks. -/
theorem applyFrame_leaves (x : Station) (f : Frame) (s : State) : (applyFrame x f s).link = s.link
    ∧ (applyFrame x f s).rail = { s.rail with waiters := (applyFrame x f s).rail.waiters } := by
  cases f <;> exact ⟨rfl, rfl⟩

theorem sought_applyFrame (x : Station) (f : Frame) {s : State} (h : ClaimSought s) : ClaimSought (applyFrame x f s) := by
  obtain ⟨link, rail⟩ := applyFrame_leaves x f s
  exact h.of_rail (.inr ⟨by rw [link], by rw [rail], by rw [rail], by rw [rail]⟩)

/-- Another station's frame applied: the claim rule is evaluated after every frame that moves its figures (R145). -/
theorem justified_takeEntry {x : Station} {s : State} (other : x ≠ s.link.own) (f : Frame) (h : ClaimJustified s) :
    ClaimJustified (takeEntry x f s) := by
  have ruled : ClaimJustified (if (f.kind.isRail && x != (applyFrame x f s).link.own) = true then evaluateClaim (applyFrame x f s)
      else applyFrame x f s) := by
    have others : (x != (applyFrame x f s).link.own) = true := by rw [(applyFrame_leaves x f s).1]; exact bne_iff_ne.mpr other
    rw [others, Bool.and_true]
    split
    · exact justified_evaluateClaim (sought_applyFrame x f (sought_of_justified h))
    next beside =>
      cases f with
      | leave | mark => exact justified_updPeer rfl rfl h
      | release | withdraw | state | roll | wait | claim => exact absurd rfl beside
  unfold takeEntry
  dsimp only
  split
  · exact justified_evaluateSync ruled
  · exact ruled

/-- A frame with the own number applied: no evaluation follows, and what is pending stays (R145). -/
theorem takeEntry_own {x : Station} {s : State} (own : x = s.link.own) (f : Frame) : takeEntry x f s =
    if f.kind.isSync then evaluateSync (applyFrame x f s) else applyFrame x f s := by
  have same : (x != (applyFrame x f s).link.own) = false := by
    rw [(applyFrame_leaves x f s).1]
    exact bne_eq_false_iff_eq.mpr own
  unfold takeEntry
  dsimp only
  rw [same, Bool.and_false]
  rfl

theorem evaluateSync_leaves (s : State) : (evaluateSync s).link = s.link ∧ (evaluateSync s).rail = s.rail := by
  unfold evaluateSync
  split
  · split
    · have same := linkSame_syncPassed { s with sync := { s.sync with awaited := none } }
      exact ⟨same.link, same.rail⟩
    · exact ⟨rfl, rfl⟩
  · exact ⟨rfl, rfl⟩

theorem sought_takeEntry_own {x : Station} {s : State} (own : x = s.link.own) (f : Frame) (h : ClaimSought s) :
    ClaimSought (takeEntry x f s) := by
  have applied := sought_applyFrame x f h
  rw [takeEntry_own own]
  split
  · obtain ⟨link, rail⟩ := evaluateSync_leaves (applyFrame x f s)
    exact applied.of_rail (.inr ⟨by rw [link], by rw [rail], by rw [rail], by rw [rail]⟩)
  · exact applied

theorem no_claim_takeEntry_own {x : Station} {s : State} (own : x = s.link.own) (f : Frame) (h : s.link.out.claim = none) :
    (takeEntry x f s).link.out.claim = none := by
  have applied : (applyFrame x f s).link.out.claim = none := by rw [(applyFrame_leaves x f s).1]; exact h
  rw [takeEntry_own own]
  split
  · rw [(evaluateSync_leaves _).1]; exact applied
  · exact applied

theorem goMute_own (s : State) : (goMute s).link.own = s.link.own := (tablesKept_goMute s).own

/-- A frame that is not this station's attempt: another station's has the rule evaluated, and one with the own number silences the link. -/
theorem justified_takeSteps (x : Station) (f : Frame) {s : State} (h : ClaimJustified s) : ClaimJustified (takeSteps x f false s) := by
  have present := justified_takePresence x f h
  have own := takePresence_own x f s
  by_cases hx : x = s.link.own
  · rw [takeSteps_silenced hx]
    exact justified_of_no_claim (no_claim_takeEntry_own (hx.trans (own.symm.trans (goMute_own _).symm)) f (no_claim_goMute present))
  · rw [takeSteps_unsilenced (.inl hx)]
    exact justified_takeEntry (own ▸ hx) f present

theorem sought_railStateCarried (k : FrameKind) {s : State} (h : ClaimSought s) : ClaimSought (railStateCarried k s) := by
  unfold railStateCarried
  split
  · exact h.of_rail (.inr ⟨rfl, rfl, rfl, rfl⟩)
  · exact .inl rfl
  · exact .inl rfl
  · exact h.of_rail (.inr ⟨rfl, rfl, rfl, rfl⟩)
  · exact h.of_rail (.inr ⟨rfl, rfl, rfl, rfl⟩)
  · exact h

theorem remove_claim (o : Outgoing) (k : FrameKind) : (o.remove k).claim = none ∨ (o.remove k).claim = o.claim := by
  cases k with
  | claim => exact .inl rfl
  | _ => exact .inr rfl

/-- The own frame carried: the rail state moves, and the claim rule is evaluated again (R141, R145, R146). -/
theorem justified_ownCarried (a : Attempt) (f : Frame) {s : State} (h : ClaimSought s) : ClaimJustified (ownCarried a f s) := by
  have carried : ClaimSought (carriedAttempt a f s) := by
    rw [carriedAttempt_eq]
    refine h.of_rail ?_
    show (if a.replaced then s.link.out else s.link.out.remove a.frame.kind).claim = none
      ∨ (if a.replaced then s.link.out else s.link.out.remove a.frame.kind).claim = s.link.out.claim ∧ _
    split
    · exact .inr ⟨rfl, rfl, rfl, rfl⟩
    · exact (remove_claim _ _).imp_right fun kept => ⟨kept, rfl, rfl, rfl⟩
  rw [ownCarried_eq]
  exact justified_giveUpSteps (justified_evaluateClaim (sought_railStateCarried _ carried))

theorem justified_answerRoll {s : State} (h : ClaimJustified s) : ClaimJustified (answerRoll s) := by
  have marked : ∀ u, ClaimJustified u → ClaimJustified (markAnswer u) := fun u hu => by
    unfold markAnswer
    split
    · exact justified_handFrame (by nofun) hu
    · exact hu
  have waits : ∀ u, ClaimJustified u → ClaimJustified (waitAnswer u) := fun u hu => by
    unfold waitAnswer
    split
    · exact justified_handFrame (by nofun) hu
    · exact hu
  rw [answerRoll_eq]
  exact waits _ (marked _ (justified_handFrame (by nofun) h))

/-- A carried frame keeps the pending CLAIM justified: by another station's it is evaluated, by the own one it is evaluated when its owner
is told, and a frame with the own number that this station did not send discards it (R124, R125, R145, R146). -/
theorem justified_takeFrame (x : Station) (f : Frame) {s : State} (h : ClaimJustified s) : ClaimJustified (takeFrame x f s) := by
  unfold takeFrame
  split
  · split
    next a attempt =>
      have own : x = s.link.own := by
        unfold ownAttempt at attempt
        split at attempt
        · exact (Option.ite_none_right_eq_some.mp attempt).1.1
        · cases attempt
      rw [takeSteps_unsilenced (.inr rfl)]
      exact justified_ownCarried a f
        (sought_takeEntry_own (own.trans (takePresence_own x f s).symm) f (sought_of_justified (justified_takePresence x f h)))
    · have taken := justified_takeSteps x f (justified_loseAttempt h)
      dsimp only
      split
      · exact justified_answerRoll taken
      · exact taken
  · exact h

/-! ## Every step -/

theorem claimShareRule : ShareRule ClaimJustified where
  move := ShareMove.justified
  reset straps lines s := by
    rw [resetCard_eq]
    refine justified_of_no_claim ?_
    show (if lines.railFail then Outgoing.empty else { Outgoing.empty with roll := true }).claim = none
    split <;> rfl
  cardReset _ _ _ := justified_of_no_claim rfl
  halt s := justified_of_no_claim (by rw [(haltCard_others s).2.1]; rfl)
  window {s} h := fun u k hc => by
    obtain ⟨demand, rule⟩ := h u k hc
    obtain ⟨seeking, giving, st, up, fits⟩ := (claimRule_iff s u).mp rule
    exact ⟨demand, (claimRule_iff _ u).mpr ⟨seeking, giving, st, by rw [up]; rfl, fits⟩⟩
  start {s} h := by
    unfold startFrame
    split
    · exact FiguresStand.justified (figuresStand_of_eq (by rfl)) rfl h
    · exact h
  lose := justified_loseAttempt
  void := justified_voidAttempt
  frame x f _ := justified_takeFrame x f

/-- Settles O51: each move and each operation of the link keeps the pending CLAIM justified. -/
theorem claimsStayJustified : Obligations.ClaimsStayJustified := fun _ _ h hst => claimShareRule.step h hst

/-- Settles O52: the CLAIM on the line was pending, so the claim rule holds of it by the figures in force. -/
theorem claimFitsBudget : Obligations.ClaimFitsBudget := by
  intro s t u k r justified free started line
  obtain rfl := Host.Outcome.next.inj started
  have begun : ∃ f, lowestFrame s = some f ∧ startFrame s = s.withLink { s.link with attempt := some { frame := f, replaced := false } } := by
    cases sends : linkSends s with
    | false => rw [startFrame_still (.inl sends), free] at line; cases line
    | true =>
      cases lowest : lowestFrame s with
      | none =>
        have still : startFrame s = s := by unfold startFrame; rw [sends, free, lowest]
        rw [still, free] at line; cases line
      | some f => exact ⟨f, rfl, startFrame_begins sends free lowest⟩
  obtain ⟨f, lowest, begins⟩ := begun
  rw [begins] at line ⊢
  obtain ⟨rfl, _⟩ : f = .claim u k ∧ false = r := by simpa using line
  have pending : s.link.out.claim = some (u, k) := (lowestFrame_some lowest).1
  obtain ⟨_, _, _, _, fits⟩ := (claimRule_iff s u).mp (justified u k pending).2
  show tally s + u ≤ s.link.effBudget ∧ tally s + u + needsAhead s ≤ s.link.effBudget
  omega

end Sys2Proof.Machine
end

section
/-! A HALTED card stays still: its link, OFF, discards what it is handed and hears nothing, and with no run in progress nobody asks for rail
(R127, R155, R175). -/

namespace Sys2Proof.Machine

theorem still_of_normal {s : State} (h : s.alert.halted = false) : HaltedIsStill s := fun halted => absurd (h.symm.trans halted) Bool.false_ne_true

/-- A step that leaves the card state is judged on a HALTED card alone. -/
theorem still_of_halted {s t : State} (alert : t.alert = s.alert) (h : s.alert.halted = true → HaltedIsStill t) : HaltedIsStill t :=
  fun halted => h (alert ▸ halted) halted

theorem haltedStill_silent {s : State} (h : HaltedIsStill s) (halted : s.alert.halted = true) : linkSends s = false := by
  unfold linkSends
  rw [(h halted).1]
  rfl

theorem haltedStill_deaf {s : State} (h : HaltedIsStill s) (halted : s.alert.halted = true) : linkHears s = false := by
  unfold linkHears
  rw [(h halted).1]
  rfl

theorem haltedStill_free {s : State} (h : HaltedIsStill s) (halted : s.alert.halted = true) : s.link.attempt = none :=
  (h halted).2.2.1

/-- A HALTED card may not act on the rail. -/
theorem haltedStill_inactive {s : State} (h : HaltedIsStill s) (halted : s.alert.halted = true) : ¬ MayAct s := fun acts =>
  acts halted (h halted).2.2.2.1

/-- A card that a halt leaves with its link OFF and no run, holding no rail and reckoning with no held rail, is still. -/
theorem still_haltCard (s : State) : HaltedIsStill (haltCard s) := fun _ => by
  have seq : (haltCard s).run.seq = .idle := by
    by_cases hq : s.run.seq = .idle
    · rw [haltCard_idle hq]; exact hq
    · exact (haltCard_run hq).1
  obtain ⟨_, link, peers, rail, _⟩ := haltCard_others s
  rw [link, peers, rail]
  exact ⟨rfl, rfl, rfl, seq, rfl, rfl, rfl, rfl, fun x => by rw [haltPeers_get]⟩

theorem still_resetCard (straps : Straps) (lines : Lines) (s : State) : HaltedIsStill (resetCard straps lines s) := by
  rw [resetCard_eq]
  intro halted
  have failed : lines.railFail = true := halted
  refine ⟨if_pos failed, if_pos failed, rfl, rfl, rfl, rfl, rfl, rfl, fun x => ?_⟩
  show (peersReset straps)[x].held = 0
  rw [peersReset_get]
  split <;> rfl

/-! ## The moves -/

theorem still_beside {s t : State} (hb : Beside s t) (h : HaltedIsStill s) : HaltedIsStill t := fun halted => by
  have halted' : s.alert.halted = true := hb.halted ▸ halted
  have idle : t.run.seq = .idle := by
    by_contra active
    exact haltedStill_inactive h halted' (hb.acts (mayAct_of_active active))
  obtain ⟨st, out, attempt, _, rail⟩ := h halted'
  rw [hb.link_field Link.st fun _ => rfl, hb.link_field Link.out fun _ => rfl, hb.link_field Link.attempt fun _ => rfl, hb.rail, hb.peers]
  exact ⟨st, out, attempt, idle, rail⟩

/-- Each move of an event leaves a HALTED card still: what is handed over is discarded, and nobody may ask for rail or give it up. -/
theorem ShareMove.still {s t : State} (hm : ShareMove s t) (h : HaltedIsStill s) : HaltedIsStill t := by
  cases hm with
  | beside _ hb => exact still_beside hb h
  | hand f _ =>
    exact still_of_halted (leaves_handFrame f s).alert fun halted => by
      rw [handFrame_discarded f (haltedStill_silent h halted)]
      exact h
  | unmark =>
    intro halted
    obtain ⟨st, out, others⟩ := h halted
    exact ⟨st, (congrArg (·.remove .mark) out).trans (remove_empty .mark), others⟩
  | demand d acts => exact still_of_halted (leaves_handDemand d s).alert fun halted => absurd acts (haltedStill_inactive h halted)
  | giveUp acts => exact still_of_halted (leaves_giveUp s).alert fun halted => absurd acts (haltedStill_inactive h halted)
  | release =>
    refine still_of_halted (leaves_releasePass s).alert fun halted => ?_
    obtain ⟨_, _, _, _, st, _⟩ := h halted
    have unheld : releasePass s = s := if_neg (by rw [st]; nofun)
    rw [unheld]
    exact h

/-! ## Every step -/

theorem haltedShareRule : ShareRule HaltedIsStill where
  move := ShareMove.still
  reset := still_resetCard
  cardReset _ _ normal := still_of_normal normal
  halt := still_haltCard
  window h := fun halted => by
    obtain ⟨st, others⟩ := h halted
    exact ⟨(if_neg (by rw [st]; nofun)).trans st, others⟩
  start {s} h := still_of_halted (linkSideOnly_startFrame s).linkMoves.card.alert fun halted => by
    rw [startFrame_still (.inl (haltedStill_silent h halted))]
    exact h
  lose {s} h := still_of_halted (linkSideOnly_loseAttempt s).linkMoves.card.alert fun halted => by
    have free : loseAttempt s = s := by
      unfold loseAttempt
      rw [haltedStill_free h halted]
    rw [free]
    exact h
  void {s} h := still_of_halted (linkMoves_voidAttempt s).card.alert fun halted => by
    rw [voidAttempt_free (haltedStill_free h halted)]
    exact h
  frame x f {s} h := still_of_halted (linkMoves_takeFrame x f s).card.alert fun halted => by
    rw [takeFrame_deaf (haltedStill_deaf h halted)]
    exact h

/-- Settles O53: each move and each operation of the link leaves a HALTED card still. -/
theorem haltedStaysStill : Obligations.HaltedStaysStill := fun _ _ h hst => haltedShareRule.step h hst

end Sys2Proof.Machine
end

section
/-! Pass selection: the first of the five sizes whose demand the limit carries, and the ACTIVE sites dealt out to the passes in ascending
order (R139). -/

namespace Sys2Proof.Machine

/-! ## A window of an ascending list -/

/-- In an ascending list as many entries lie below an entry as stand before it. -/
theorem rank_getElem {α : Type} [LinearOrder α] {l : List α} (sorted : l.Pairwise (· < ·)) {n : Nat} (hn : n < l.length) :
    (l.filter fun k => k < l[n]).length = n := by
  induction l generalizing n with
  | nil => cases hn
  | cons x l ih =>
    obtain ⟨first, rest⟩ := List.pairwise_cons.mp sorted
    cases n with
    | zero =>
      have none : (x :: l).filter (fun k => k < x) = [] := List.filter_eq_nil_iff.mpr fun k hk => by
        rcases List.mem_cons.mp hk with rfl | later
        · simp
        · simp [(first k later).le]
      exact congrArg List.length none
    | succ n =>
      have hn' : n < l.length := Nat.lt_of_succ_lt_succ hn
      have below : decide (x < l[n]) = true := decide_eq_true (first _ (List.getElem_mem hn'))
      rw [List.getElem_cons_succ, List.filter_cons, if_pos below, List.length_cons, ih rest hn']

/-- An entry of an ascending list lies in a window of it when as many entries lie below it as the window says. -/
theorem mem_window_iff {α : Type} [LinearOrder α] {l : List α} (sorted : l.Pairwise (· < ·)) (a m : Nat) (i : α) :
    i ∈ (l.drop a).take m ↔ i ∈ l ∧ a ≤ (l.filter fun k => k < i).length ∧ (l.filter fun k => k < i).length < a + m := by
  constructor
  · intro within
    obtain ⟨j, hj, rfl⟩ := List.mem_take_iff_getElem.mp within
    rw [lt_min_iff, List.length_drop] at hj
    rw [List.getElem_drop, rank_getElem sorted]
    exact ⟨List.getElem_mem _, by omega, by omega⟩
  · rintro ⟨mem, low, high⟩
    obtain ⟨n, hn, rfl⟩ := List.getElem_of_mem mem
    rw [rank_getElem sorted] at low high
    refine List.mem_take_iff_getElem.mpr ⟨n - a, by rw [lt_min_iff, List.length_drop]; omega, ?_⟩
    simp only [List.getElem_drop, Nat.add_sub_cancel' low]

/-- The first entry of an ascending list that a condition finds is its least. -/
theorem find?_least {α : Type} [LinearOrder α] {l : List α} (sorted : l.Pairwise (· < ·)) {p : α → Bool} {k : α}
    (found : l.find? p = some k) : k ∈ l ∧ p k = true ∧ ∀ j ∈ l, j < k → p j = false := by
  obtain ⟨meets, before, after, rfl, misses⟩ := List.find?_eq_some_iff_append.mp found
  refine ⟨by simp, meets, fun j hj below => ?_⟩
  rcases List.mem_append.mp hj with early | late
  · exact Bool.not_eq_true' _ ▸ misses j early
  · obtain ⟨_, tail, _⟩ := List.pairwise_append.mp sorted
    rcases List.mem_cons.mp late with rfl | later
    · exact absurd below (lt_irrefl _)
    · exact absurd below (List.rel_of_pairwise_cons tail later).asymm

/-! ## The members of the passes -/

theorem activeSites_ascending (s : State) : (activeSites s).Pairwise (· < ·) := (List.pairwise_lt_finRange 16).filter _

theorem mem_activeSites (s : State) (i : Site) : i ∈ activeSites s ↔ s.sites[i].state = .active := by
  simp [activeSites, mem_allSites]

theorem length_passChunks (s : State) (m p : Nat) : (passChunks s m p).length = p := by simp [passChunks]

/-- The members of a pass are the ACTIVE sites of its window (R50, R139). -/
theorem inMask_passChunks {s : State} {m p j : Nat} (hj : j < p) (i : Site) :
    inMask ((passChunks s m p).getD j 0) i = true ↔ i ∈ ((activeSites s).drop (j * m)).take m := by
  have chunk : (passChunks s m p).getD j 0 = maskOf fun i => (((activeSites s).drop (j * m)).take m).contains i := by
    simp [passChunks, hj]
  rw [chunk, inMask_maskOf, List.contains_iff_mem]

/-! ## The selection -/

/-- The limit carries a demand when the current does not exceed it (R138). -/
theorem railDemand_le_iff (a d limit : Nat) : railDemand a d ≤ limit ↔ a * d ≤ 25 * limit := by
  show (a * d + 25 - 1) / 25 ≤ limit ↔ _
  omega

theorem ceilDiv_pos {n k : Nat} (hn : 1 ≤ n) (hk : 1 ≤ k) : 1 ≤ ceilDiv n k := Nat.div_pos (by omega) hk

theorem le_ceilDiv_mul (n : Nat) {m : Nat} (hm : 1 ≤ m) : n ≤ ceilDiv n m * m := by
  have covers : n ≤ m • (n ⌈/⌉ m) := le_smul_ceilDiv hm
  rw [Nat.ceilDiv_eq_add_pred_div, smul_eq_mul, Nat.mul_comm] at covers
  exact covers

/-- The numbers of passes that a selection tries, ascending (R139). -/
theorem triedPasses_ascending : [1, 2, 4, 8, 16].Pairwise (· < ·) := by decide

theorem triedPasses_pos : ∀ k ∈ [1, 2, 4, 8, 16], 1 ≤ k := by decide

theorem passSelection_some {n d limit m p : Nat} (h : passSelection n d limit = some (m, p)) : ∃ k, k ∈ [1, 2, 4, 8, 16]
    ∧ m = ceilDiv n k ∧ p = ceilDiv n m ∧ railDemand m d ≤ limit ∧ ∀ j ∈ [1, 2, 4, 8, 16], j < k → limit < railDemand (ceilDiv n j) d := by
  unfold passSelection at h
  split at h
  next k found =>
    cases h
    obtain ⟨tried, fits, misses⟩ := find?_least triedPasses_ascending found
    exact ⟨k, tried, rfl, rfl, of_decide_eq_true fits, fun j hj below => Nat.lt_of_not_le (of_decide_eq_false (misses j hj below))⟩
  · cases h

theorem passSelection_none_iff (n d limit : Nat) : passSelection n d limit = none
    ↔ ∀ k ∈ [1, 2, 4, 8, 16], limit < railDemand (ceilDiv n k) d := by
  have missed : ([1, 2, 4, 8, 16].find? fun k => decide (railDemand (ceilDiv n k) d ≤ limit)) = none
      ↔ ∀ k ∈ [1, 2, 4, 8, 16], limit < railDemand (ceilDiv n k) d := by
    simp only [List.find?_eq_none, decide_eq_true_eq, Nat.not_le]
  rw [← missed]
  unfold passSelection
  split
  next found => exact iff_of_false nofun fun none => nomatch found.symm.trans none
  next none => exact iff_of_true rfl none

/-- No size fits exactly when one site alone draws more than the limit: sixteen passes leave one site to each (R64, R139). -/
theorem passSelection_none_iff_draw {n d limit : Nat} (low : 1 ≤ n) (high : n ≤ 16) :
    passSelection n d limit = none ↔ 25 * limit < d := by
  rw [passSelection_none_iff]
  simp only [← Nat.not_le, railDemand_le_iff]
  constructor
  · intro misses
    have single : ceilDiv n 16 = 1 := by unfold ceilDiv; omega
    have missed := misses 16 (by decide)
    rwa [single, Nat.one_mul] at missed
  · intro exceeds k hk fits
    exact exceeds ((Nat.le_mul_of_pos_left d (ceilDiv_pos low (triedPasses_pos k hk))).trans fits)

/-- Settles O39: the plan by the two outcomes of the selection, the members by the rank of a site among the ACTIVE ones, the selection by the
numbers of passes tried. -/
theorem passesSelected : Obligations.PassesSelected := by
  refine ⟨fun s drawn => ⟨formPassPlan_none drawn, fun m p => formPassPlan_some drawn⟩, fun s m p j i hj => ⟨length_passChunks s m p, ?_⟩,
    fun n d limit low high _ => ⟨fun m p selected => ?_, passSelection_none_iff_draw low high⟩⟩
  · rw [← mem_activeSites]
    exact (inMask_passChunks hj i).trans (mem_window_iff (activeSites_ascending s) (j * m) m i)
  · obtain ⟨k, tried, rfl, rfl, fits, misses⟩ := passSelection_some selected
    exact ⟨k, tried, rfl, rfl, fits, le_ceilDiv_mul n (ceilDiv_pos low (triedPasses_pos k tried)), misses⟩

end Sys2Proof.Machine
end

section
/-! The window checks of a command being served, in order: HALTED, the operand length, the buffer (R176, R181, R184). -/

namespace Sys2Proof.Machine

/-- The event of every command serves it with an owner of its own. -/
theorem exec_event (c : Cmd) (straps : Straps) :
    ∃ owner : Block → State → State, ∀ s, exec (c.event straps) s = .next (serve c owner s) := by
  cases c <;> exact ⟨_, fun _ => rfl⟩

/-- The event of a command whose block fails a window check completes the block with that check's response. -/
theorem exec_event_refused {c : Cmd} {b : Block} {s s0 : State} {r : Response} (straps : Straps) (h : Serving c b s s0)
    (refused : windowChecks c b s0 = some r) : exec (c.event straps) s = .next (respond b r s0) := by
  obtain ⟨taken, code⟩ := h
  obtain ⟨owner, event⟩ := exec_event c straps
  rw [event, serve_refused taken code refused]

/-- The HALTED check passes a NORMAL card, and the READ commands on every card (R176). -/
theorem haltCheck_passed {c : Cmd} {s : State} (h : s.alert.halted = false ∨ c.isRead = true) :
    (s.alert.halted && !c.isRead) = false := by
  rcases h with normal | read
  · rw [normal, Bool.false_and]
  · rw [read, Bool.not_true, Bool.and_false]

/-- A wrong operand length is told past the HALTED check, whatever the buffer (R181). -/
theorem windowChecks_length {c : Cmd} {b : Block} {s : State} (passed : s.alert.halted = false ∨ c.isRead = true)
    (wrong : 48 < b.opLength ∨ ∃ n, c.operandLength = some n ∧ b.opLength ≠ n) : windowChecks c b s = some .operandLength := by
  refine (firstRefusal_next (haltCheck_passed passed)).trans (if_pos ?_)
  rcases wrong with long | ⟨n, fixed, other⟩
  · rw [decide_eq_true long, Bool.true_or]
  · rw [fixed]
    exact Bool.or_eq_true_iff.mpr (.inr (bne_iff_ne.mpr other))

/-- A buffer that fails its check is told once the HALTED check and the operand length have passed (R181). -/
theorem windowChecks_bufferCheck {c : Cmd} {b : Block} {s : State} (passed : s.alert.halted = false ∨ c.isRead = true)
    (short : b.opLength ≤ 48) (fixed : ∀ n, c.operandLength = some n → b.opLength = n) (bad : bufferCheck c b = false) :
    windowChecks c b s = some .bufferRange := by
  refine (firstRefusal_next (haltCheck_passed passed)).trans ((firstRefusal_next ?_).trans (if_pos (by rw [bad]; rfl)))
  rw [decide_eq_false (Nat.not_lt.mpr short), Bool.false_or]
  cases length : c.operandLength with
  | none => rfl
  | some n => exact bne_eq_false_iff_eq.mpr (fixed n length)

/-- A buffer fails the placement rule of R184 when it starts outside the area, runs past the window's end, is too small, or lies over the
command block. -/
theorem bufferOk_misplaced {b : Block} {n : Nat}
    (bad : b.bufOffset < 0x100 ∨ 0x1000 ≤ b.bufOffset ∨ 0x1000 < b.bufOffset + b.bufLength ∨ b.bufLength < n
      ∨ (b.bufLength ≠ 0 ∧ b.offset < b.bufOffset + b.bufLength ∧ b.bufOffset < b.offset + 64)) : bufferOk b n = false := by
  unfold bufferOk Config.areaFirst Config.windowSize
  simp only [Bool.and_eq_false_iff, decide_eq_false_iff_not]
  omega

/-- A misplaced buffer fails the check of a command that returns data, unless it is RUN's absent one (R181, R184). -/
theorem bufferCheck_misplaced {c : Cmd} {b : Block} {n : Nat} (returns : c.returnLength = some n)
    (present : ¬ (c = .run ∧ b.bufOffset = 0)) (bad : bufferOk b n = false) : bufferCheck c b = false := by
  have named : (c == .run && b.bufOffset == 0) = false := by simpa using present
  unfold bufferCheck
  simp only [returns, named, bad, Bool.or_false]

/-- Settles O7: each window check is reached when those before it have passed, and the first that fails gives the response. -/
theorem windowChecksInOrder : Obligations.WindowChecksInOrder := by
  intro c straps b s s0 serving
  refine ⟨fun halted other => ?_, fun passed => ⟨fun wrong => ?_, fun short fixed n returns present bad => ?_⟩⟩
  · exact exec_event_refused straps serving (windowChecks_halted halted other)
  · exact exec_event_refused straps serving (windowChecks_length passed wrong)
  · have failed : bufferCheck c b = false := bufferCheck_misplaced returns present (bufferOk_misplaced bad)
    exact exec_event_refused straps serving (windowChecks_bufferCheck passed short fixed failed)

end Sys2Proof.Machine
end

section
/-! The ALERT line and the latches that drive it (R167, R171 to R175). -/

namespace Sys2Proof.Machine

/-! ## A rise, a fall and a release -/

/-- A rise with the level already asserted changes nothing (log 1). -/
theorem alertRises_asserted {s : State} (h : s.alert.level = true) : alertRises s = s := if_pos h

/-- A HALTED card shows the level and does not act on a rise (R172). -/
theorem alertRises_halted {s : State} (released : s.alert.level = false) (halted : s.alert.halted = true) :
    alertRises s = s.withAlert { s.alert with level := true } :=
  (if_neg (Bool.eq_false_iff.mp released)).trans (if_pos halted)

/-- A NORMAL card shows the level and acts on a rise by its stop option (R171, R172). -/
theorem alertRises_normal {s : State} (released : s.alert.level = false) (normal : s.alert.halted = false) :
    alertRises s = riseEffect (s.withAlert { s.alert with level := true }) :=
  (if_neg (Bool.eq_false_iff.mp released)).trans (if_neg (Bool.eq_false_iff.mp normal))

/-- Under SHUTDOWN a rise ends a run STOPPED (R171). -/
theorem riseEffect_shutdown {s : State} (h : s.store.stopOption = .shutdown) : riseEffect s = settle (endRun .stopped s) := by
  unfold riseEffect
  rw [h]

/-- Under IGNORE a rise is counted (R172). -/
theorem riseEffect_ignore {s : State} (h : s.store.stopOption = .ignore) :
    riseEffect s = s.withAlert { s.alert with count := min 255 (s.alert.count + 1) } := by
  unfold riseEffect
  rw [h]
  rfl

/-- Under SHUTDOWN a rise in a run that is not ending sends ABANDON, the HCI having nothing else to send (R72, R171). -/
theorem riseEffect_stops {s : State} (option : s.store.stopOption = .shutdown) (quiet : HciQuiet s) (run : s.run.seq ≠ .idle)
    (notEnding : s.run.ending = none) :
    (riseEffect s).run.ending = some .stopped ∧ AbandonSent (riseEffect s) ∧ (riseEffect s).alert = s.alert := by
  obtain ⟨record, sent, rest⟩ := endRun_quiet (cause := .stopped) quiet run notEnding nofun nofun
  rw [riseEffect_shutdown option, rest]
  exact ⟨by rw [record], sent, (leaves_endRun .stopped s).alert⟩

/-- Outside a run, with nothing to send and no unit in flight, a rise under SHUTDOWN does no more (R171). -/
theorem riseEffect_idle {s : State} (option : s.store.stopOption = .shutdown) (quiet : HciQuiet s) (idle : s.run.seq = .idle)
    (noUnit : s.run.inflight = none) : riseEffect s = s := by
  obtain ⟨-, held, drop⟩ := quiet
  rw [riseEffect_shutdown option, endRun_idle .stopped idle]
  exact settle_rest (nextAction_none (hciDue_empty held drop) (unitDue_none noUnit) (sequencerDue_idle idle))

/-- A fall releases the level when this card does not drive the line (R167). -/
theorem alertFalls_undriven {s : State} (h : alertDrive s.alert = false) : alertFalls s = s.withAlert { s.alert with level := false } :=
  if_neg (Bool.eq_false_iff.mp h)

/-- Settles O48: a rise by the level it finds, the card's halt and the stop option; a fall and a release are their levels. -/
theorem linesTaken : Obligations.LinesTaken := by
  intro s
  refine ⟨fun released normal option => ?_, fun released normal option quiet => ⟨fun run notEnding => ?_, fun idle noUnit => ?_⟩,
    fun released halted => congrArg _ (alertRises_halted released halted), fun asserted => congrArg _ (alertRises_asserted asserted),
    fun undriven => congrArg _ (alertFalls_undriven undriven), rfl⟩
  · exact congrArg _ ((alertRises_normal released normal).trans (riseEffect_ignore option))
  · refine ⟨_, congrArg Host.Outcome.next (alertRises_normal released normal), ?_⟩
    exact riseEffect_stops (s := s.withAlert { s.alert with level := true }) option quiet run notEnding
  · exact congrArg _ ((alertRises_normal released normal).trans (riseEffect_idle option quiet idle noUnit))

/-! ## RAISE-ALERT and CLEAR-ALERT -/

theorem exec_raiseAlert {b : Block} {s s0 : State} (h : Served .raiseAlert b s s0) :
    exec .raiseAlert s = .next (raiseAlertOwner b s0) := congrArg _ (serve_served h.1.1 h.1.2 h.2)

theorem exec_clearAlert {b : Block} {s s0 : State} (h : Served .clearAlert b s s0) :
    exec .clearAlert s = .next (clearAlertOwner b s0) := congrArg _ (serve_served h.1.1 h.1.2 h.2)

/-- The raised latch drives ALERT (R167). -/
theorem alertDrive_raised {a : AlertMonitor} (h : a.raised = true) : alertDrive a = true := by simp [alertDrive, h]

/-- With both latches clear only a HALTED card drives ALERT (R167). -/
theorem alertDrive_cleared {a : AlertMonitor} (raised : a.raised = false) (headFault : a.headFault = false) : alertDrive a = a.halted := by
  simp [alertDrive, raised, headFault]

/-- Settles O23: the window refuses both on a HALTED card; served, each changes its latches, and the drive follows them. -/
theorem alertLatched : Obligations.AlertLatched := by
  refine fun b s s0 => ⟨fun serving halted => ?_, fun serving halted => ?_, fun served => ?_, fun served => ?_⟩
  · exact congrArg _ (serve_refused serving.1 serving.2 (windowChecks_halted halted rfl))
  · exact congrArg _ (serve_refused serving.1 serving.2 (windowChecks_halted halted rfl))
  · exact ⟨_, exec_raiseAlert served, rfl, alertDrive_raised rfl⟩
  · have normal : s0.alert.halted = false := normal_of_served rfl served.2
    exact ⟨_, exec_clearAlert served, rfl, (alertDrive_cleared rfl rfl).trans normal⟩

end Sys2Proof.Machine
end

section
/-! Every command leaves the queue of commands and keeps the window memory in its canonical form, and every well-formed one has a next state
(R177). -/

namespace Sys2Proof.Machine

/-! ## Changes that keep the memory's form -/

/-- The queue of commands stands, and a window memory in its canonical form stays in it. -/
structure WindowKept (s t : State) : Prop where
  pending : t.pending = s.pending
  memory : MemoryCanonical s → MemoryCanonical t

theorem WindowKept.refl (s : State) : WindowKept s s := ⟨rfl, id⟩

theorem WindowKept.trans {s t u : State} (h : WindowKept s t) (h' : WindowKept t u) : WindowKept s u :=
  ⟨h'.pending.trans h.pending, h'.memory ∘ h.memory⟩

/-- A change of other fields than the queue of commands and the window memory. -/
theorem windowKept_of_eq {s t : State} (hp : t.pending = s.pending := by rfl) (hm : t.cwc.mem = s.cwc.mem := by rfl) : WindowKept s t :=
  ⟨hp, fun h => by unfold MemoryCanonical; rw [hm]; exact h⟩

theorem windowKept_ite {c : Prop} [Decidable c] {s t u : State} (ht : WindowKept s t) (hu : WindowKept s u) :
    WindowKept s (if c then t else u) := by
  split
  · exact ht
  · exact hu

theorem windowKept_foldl {f : State → Site → State} (hf : ∀ s i, WindowKept s (f s i)) (l : List Site) (s : State) :
    WindowKept s (l.foldl f s) := by
  induction l generalizing s with
  | nil => exact .refl s
  | cons i l ih => exact (hf s i).trans (ih _)

theorem Leaves.windowKept {s t : State} (h : Leaves s t) : WindowKept s t := ⟨h.pending, h.memory⟩

theorem LinkSideOnly.windowKept {s t : State} (h : LinkSideOnly s t) : WindowKept s t := by
  obtain ⟨_, _, _, _, rfl⟩ := h
  exact windowKept_of_eq

theorem Move.windowKept {s t : State} (h : Move s t) : WindowKept s t := by
  cases h with
  | link | run | uag | timed | marks | hold => exact windowKept_of_eq
  | send _ h => exact (leaves_hciDue h).windowKept
  | finishRun r => exact (leaves_finishRun r s).windowKept
  | finishAbort r => exact (leaves_finishAbort r s).windowKept
  | finishPause r => exact (leaves_finishPause r s).windowKept
  | writeBytes a bs => exact (leaves_writeBytes a bs s).windowKept
  | close cause => exact (leaves_closeRun cause s).windowKept

/-- The card's own machinery keeps the memory's form. -/
theorem Moves.windowKept {s t : State} (h : Moves s t) : WindowKept s t :=
  h.keeps (P := WindowKept s) (fun _ _ m hs => hs.trans m.windowKept) (.refl s)

/-- An event's work, and then the card settles. -/
theorem WindowKept.settled {s t : State} (h : WindowKept s t) : WindowKept s (settle t) := h.trans (moves_settle t).windowKept

/-! ## Bytes of the window -/

theorem windowKept_writeArea (a : Nat) (v : Byte) (s : State) : WindowKept s (writeArea a v s) :=
  ⟨by rw [(onlyCwc_writeArea a v s).eq]; rfl, writeArea_wf a v⟩

theorem windowKept_respond (b : Block) (r : Response) (s : State) : WindowKept s (respond b r s) := (leaves_respond b r s).windowKept

theorem windowKept_respondWith (b : Block) (r : Response) (data : List Byte) (s : State) : WindowKept s (respondWith b r data s) :=
  (leaves_writeBytes _ _ s).windowKept.trans (windowKept_respond b r _)

theorem windowKept_enqueue (b : Block) (s : State) : WindowKept s (enqueue b s) := by
  have full := windowKept_respond b .queueFull s
  unfold enqueue
  split
  · exact windowKept_respond b _ s
  · exact windowKept_ite (windowKept_ite windowKept_of_eq full) (windowKept_ite windowKept_of_eq full)

theorem windowKept_takePost (v : BitVec 16) (s : State) : WindowKept s (takePost v s) := by
  have posted : WindowKept s { s with cwc := { s.cwc with postCell := v } } := windowKept_of_eq
  exact windowKept_ite ((posted.trans (windowKept_writeArea _ _ _)).trans (windowKept_enqueue _ _)) windowKept_of_eq

theorem windowKept_windowWrite {offset : Nat} {v : Byte} {s t : State} (h : execWindowWrite offset v s = .next t) : WindowKept s t := by
  rcases windowWrite_cases h with rfl | rfl | rfl | rfl | rfl
  · exact windowKept_of_eq
  · exact windowKept_takePost _ s
  · exact windowKept_of_eq
  · exact windowKept_of_eq
  · exact windowKept_writeArea offset v s

/-! ## Served commands -/

/-- Serving keeps the memory's form when the owner's work does. -/
theorem windowKept_serve {c : Cmd} {owner : Block → State → State} {s : State} (ho : ∀ b x, WindowKept x (owner b x)) :
    WindowKept s (serve c owner s) := by
  have taken : ∀ {b s0}, takeBlock s = some (b, s0) → WindowKept s s0 := fun ht => by
    rw [takeBlock_eq ht]
    exact windowKept_of_eq
  rcases serve_cases c owner s with hs | ⟨b, s0, ht, _, ⟨r, _, hs⟩ | ⟨_, hs⟩⟩
  · rw [hs]; exact .refl s
  · rw [hs]; exact (taken ht).trans (windowKept_respond b r s0)
  · rw [hs]; exact (taken ht).trans (ho b s0)

theorem windowKept_guarded {b : Block} {conds : List (Bool × Response)} {act : State → State} {s : State}
    (ha : WindowKept s (act s)) : WindowKept s (guarded b conds act s) := by
  unfold guarded
  split
  · exact windowKept_respond _ _ s
  · exact ha

/-- A served command that changes other fields and completes. -/
theorem windowKept_serve_respond {c : Cmd} {conds : Block → State → List (Bool × Response)} {act : Block → State → State} {s : State}
    (ha : ∀ b x, WindowKept x (act b x)) :
    WindowKept s (serve c (fun b x => guarded b (conds b x) (fun y => respond b .ok (act b y)) x) s) :=
  windowKept_serve fun b x => windowKept_guarded ((ha b x).trans (windowKept_respond b .ok _))

theorem windowKept_startRun (b : Block) (s : State) : WindowKept s (startRun b s) :=
  .trans windowKept_of_eq (leaves_handRequest _ _).windowKept

theorem windowKept_readFailLog (b : Block) (s : State) : WindowKept s (readFailLogOwner b s) := by
  unfold readFailLogOwner
  split
  · exact windowKept_respond _ _ s
  · exact windowKept_guarded (.trans (t := updSite _ _ s) windowKept_of_eq (windowKept_respondWith _ _ _ _))

theorem windowKept_snapshotOwner (b : Block) (s : State) : WindowKept s (snapshotOwner b s) := by
  unfold snapshotOwner
  split
  · exact windowKept_respond _ _ s
  · exact .trans (t := setLatch _ s) windowKept_of_eq (windowKept_respond _ _ _)

theorem windowKept_readSnapshotOwner (b : Block) (s : State) : WindowKept s (readSnapshotOwner b s) := by
  unfold readSnapshotOwner
  split
  · exact .trans (t := setLatch none s) windowKept_of_eq (windowKept_respondWith _ _ _ _)
  · exact windowKept_respondWith _ _ _ s

theorem windowKept_acceptPause (b : Block) (s : State) : WindowKept s (acceptPause b s) :=
  windowKept_ite windowKept_of_eq (WindowKept.settled (.trans windowKept_of_eq (moves_pauseTakesEffect _).windowKept))

theorem windowKept_resumeOwner (b : Block) (s : State) : WindowKept s (resumeOwner b s) := by
  have resumed : WindowKept s (loadGuard (resumeRun s)) := (moves_resumeRun s).windowKept.trans windowKept_of_eq
  exact windowKept_guarded (WindowKept.settled (resumed.trans (windowKept_respond _ _ _)))

theorem windowKept_abortOwner (b : Block) (s : State) : WindowKept s (abortOwner b s) :=
  windowKept_guarded (WindowKept.settled (.trans windowKept_of_eq (moves_endRun _ _).windowKept))

/-! ## Resets and RAIL-FAIL -/

/-- A reset of the whole card leaves the queue of commands and empties the window memory (R2, R177). -/
theorem windowKept_resetCard (straps : Straps) (lines : Lines) (s : State) : WindowKept s (resetCard straps lines s) := by
  rw [resetCard_eq]
  exact ⟨rfl, fun _ => rfl⟩

/-- CARD-RESET writes the result record and the responses of the blocks it completes (R177, R188). -/
theorem windowKept_cardReset (straps : Straps) (b : Block) (s : State) : WindowKept s (cardResetOwner straps b s) := by
  have ended : WindowKept s (endRunForReset s) := by
    have cut := (leaves_cutShort s).trans (leaves_closeRun (cutCause .cardReset s) _)
    exact windowKept_ite (cut.trans (leaves_writeRunResult _)).windowKept (.refl s)
  have pending : (cardResetOwner straps b s).pending = (endRunForReset s).pending := by
    rw [cardReset_eq]
    rfl
  exact ended.trans ⟨pending, (completed_cardReset straps b s).wf⟩

theorem windowKept_haltCard (s : State) : WindowKept s (haltCard s) := by
  have halted : WindowKept s (haltBlocks s) := windowKept_of_eq
  have ended := (leaves_cutShort (haltBlocks s)).trans (leaves_finishRunEnd (cutCause .halted (haltBlocks s)) _)
  exact windowKept_ite (halted.trans ended.windowKept) halted

theorem windowKept_railFails (s : State) : WindowKept s (railFails s) := by
  have fallen : WindowKept s { s with alert := { s.alert with railFail := true } } := windowKept_of_eq
  exact windowKept_ite fallen (fallen.trans (windowKept_haltCard _))

/-! ## Messages of the head -/

theorem windowKept_takeContact (mask : SiteMask) (s : State) : WindowKept s (takeContact mask s) := by
  have applied : WindowKept s (applyContact mask (hciIdle s)) := windowKept_of_eq
  exact windowKept_ite (WindowKept.settled (applied.trans (moves_continueStart _).windowKept)) windowKept_of_eq

theorem windowKept_acceptEffect (r : Request) (s : State) : WindowKept s (acceptEffect r s) := by
  cases r with
  | operate _ _ _ mask =>
    have started : WindowKept s (startTimers mask s) := windowKept_foldl (fun _ _ => windowKept_of_eq) _ s
    exact started.trans windowKept_of_eq
  | contactCheck | compare | drop | abandon => exact .refl s

theorem windowKept_takeAccept (s : State) : WindowKept s (takeAccept s) := by
  unfold takeAccept
  split
  · exact windowKept_ite (WindowKept.settled (.trans windowKept_of_eq (windowKept_acceptEffect _ (hciIdle s)))) windowKept_of_eq
  · exact windowKept_of_eq

theorem windowKept_compareFailure (e : ResultEntry) (s : State) : WindowKept s (compareFailure e s) := by
  cases hu : s.run.inflight with
  | none => unfold compareFailure; rw [hu]; exact .refl s
  | some u => rw [compareFailure_eq hu]; exact windowKept_of_eq

theorem windowKept_resultEntries (mask : SiteMask) (named : List Site) (es : List ResultEntry) (s : State) :
    WindowKept s (resultEntries mask named es s) := by
  induction es generalizing named s with
  | nil => exact .refl s
  | cons e es ih => exact (windowKept_ite (windowKept_compareFailure e s) windowKept_of_eq).trans (ih _ _)

theorem windowKept_takeResult (es : List ResultEntry) (s : State) : WindowKept s (takeResult es s) := by
  unfold takeResult
  split
  next mask _ _ _ =>
    have entered : WindowKept s (resultEntries mask [] es (hciIdle s)) := .trans windowKept_of_eq (windowKept_resultEntries mask [] es _)
    exact WindowKept.settled (entered.trans windowKept_of_eq)
  · exact windowKept_of_eq

theorem windowKept_readySite (i : Site) (s : State) : WindowKept s (readySite i s) := by
  have judged : ∀ (v : Nat) (x : State), WindowKept x (judgeBusyTime i v x) := fun v x => by
    cases ht : x.timers.timed with
    | none => unfold judgeBusyTime; rw [ht]; exact .refl x
    | some t => rw [judgeBusyTime_eq ht]; exact windowKept_of_eq
  exact windowKept_ite (.trans windowKept_of_eq (judged _ (stopTimerAt i _ s))) windowKept_of_eq

theorem windowKept_takeReady (mask : SiteMask) (n : Nat) (s : State) : WindowKept s (takeReady mask n s) :=
  WindowKept.settled (.trans (t := elapse n s) windowKept_of_eq (windowKept_foldl (fun s i => windowKept_readySite i s) _ _))

theorem windowKept_takeOvercurrent (i : Site) (s : State) : WindowKept s (takeOvercurrent i s) := by
  have tripped : WindowKept s (cancelDrop i (tripSite i s)) :=
    .trans (t := tripSite i s) (windowKept_ite (.refl s) windowKept_of_eq) windowKept_of_eq
  have left : WindowKept s (leaveUnit i (recordFailure i .alarm 0 none (cancelDrop i (tripSite i s)))) := by
    rw [recordFailure_eq]
    exact tripped.trans windowKept_of_eq
  exact windowKept_ite (.refl s) (WindowKept.settled (windowKept_ite left tripped))

theorem windowKept_takeHeadFault (s : State) : WindowKept s (takeHeadFault s) :=
  WindowKept.settled ((moves_endRun .headFault s).windowKept.trans windowKept_of_eq)

/-! ## The ends of the running times -/

theorem windowKept_elapse (n : Nat) (s : State) : WindowKept s (elapse n s) := windowKept_of_eq

theorem windowKept_passDeadline (s : State) : WindowKept s (passDeadline s) := by
  have filled : ∀ (k : RequestKind) (x : State), WindowKept x (fillError k x) := fun k x => by
    unfold fillError
    split
    · exact .refl x
    · exact windowKept_of_eq
  unfold passDeadline
  split
  · exact .refl s
  next o _ =>
    have idle : WindowKept s (hciIdle (fillError o.request.kind (elapse o.deadline s))) :=
      ((windowKept_elapse o.deadline s).trans (filled o.request.kind _)).trans windowKept_of_eq
    have pumped := idle.trans (moves_hciPump _).windowKept
    exact WindowKept.settled (pumped.trans (moves_endRun _ _).windowKept)

theorem windowKept_passHighLimit (i : Site) (s : State) : WindowKept s (passHighLimit i s) := by
  have expired : ∀ (t : TimedStep) (x : State), WindowKept x (expireSite i t x) := fun t x => by
    unfold expireSite
    rw [busyFailure_eq]
    exact windowKept_of_eq
  unfold passHighLimit
  split
  · exact .refl s
  · exact windowKept_ite (WindowKept.settled ((windowKept_elapse _ s).trans (expired _ _))) (.refl s)

theorem windowKept_passDwell (s : State) : WindowKept s (passDwell s) := windowKept_ite (WindowKept.settled windowKept_of_eq) (.refl s)

theorem windowKept_passSyncTimeout (s : State) : WindowKept s (passSyncTimeout s) := by
  unfold passSyncTimeout
  split
  · exact .refl s
  next r _ =>
    have elapsed : WindowKept s (syncElapsed r s) := windowKept_of_eq
    have formed := elapsed.trans (linkSideOnly_syncTimedOut _).windowKept
    exact windowKept_ite (WindowKept.settled (formed.trans (moves_decideSync _).windowKept)) (.refl s)

theorem windowKept_passSupplyWait (s : State) : WindowKept s (passSupplyWait s) := by
  unfold passSupplyWait
  split
  · exact .refl s
  next r _ =>
    have elapsed : WindowKept s (supplyElapsed r s) := windowKept_of_eq
    have givenUp := elapsed.trans (moves_giveUp _).windowKept
    exact windowKept_ite (WindowKept.settled (givenUp.trans (moves_endRun _ _).windowKept)) (.refl s)

theorem windowKept_passResumeGuard (s : State) : WindowKept s (passResumeGuard s) := by
  have elapsed : WindowKept s (guardElapsed s) := windowKept_of_eq
  exact windowKept_ite (.refl s)
    (windowKept_ite (WindowKept.settled (elapsed.trans (moves_pauseTakesEffect _).windowKept)) elapsed)

theorem windowKept_passRollWindow (s : State) : WindowKept s (passRollWindow s) := by
  unfold passRollWindow
  split
  · exact .refl s
  · exact WindowKept.settled windowKept_of_eq

/-! ## The link and the lines -/

theorem windowKept_carried (x : Station) (f : Option Frame) (s : State) : WindowKept s (carried x f s) := by
  rcases carried_cases x f s with hc | ⟨u, hm, hc⟩
  · rw [hc]; exact .refl s
  · rw [hc]; exact WindowKept.settled hm.moves.windowKept

theorem windowKept_alertRises (s : State) : WindowKept s (alertRises s) := by
  have risen : WindowKept s { s with alert := { s.alert with level := true } } := windowKept_of_eq
  refine windowKept_ite (.refl s) (windowKept_ite risen (risen.trans ?_))
  unfold riseEffect
  split
  · exact WindowKept.settled (moves_endRun _ _).windowKept
  · exact windowKept_of_eq

/-! ## Every command, every step -/

theorem windowKept_exec {c : Instr} {s t : State} (he : exec c s = .next t) : WindowKept s t := by
  cases c with
  | windowWrite offset v => exact windowKept_windowWrite he
  | powerOnReset | backplaneReset => obtain rfl := Host.Outcome.next.inj he; exact windowKept_resetCard _ _ s
  | cardReset straps => obtain rfl := Host.Outcome.next.inj he; exact windowKept_serve (windowKept_cardReset straps)
  | postFirstByte | attentionFirstByte | attentionAcknowledge | railFailRelease =>
    obtain rfl := Host.Outcome.next.inj he
    exact windowKept_of_eq
  | post v => obtain rfl := Host.Outcome.next.inj he; exact windowKept_takePost _ s
  | setProfile | defineStep | deleteSteps | setStopOption | siteRestore | clearResults | rewindLog =>
    obtain rfl := Host.Outcome.next.inj he
    exact windowKept_serve_respond fun _ _ => windowKept_of_eq
  | run => obtain rfl := Host.Outcome.next.inj he; exact windowKept_serve fun b x => windowKept_guarded (windowKept_startRun b x)
  | readStatus | readResult | readPeers =>
    obtain rfl := Host.Outcome.next.inj he
    exact windowKept_serve fun b x => windowKept_respondWith b .ok _ x
  | readSite | readBadBlocks =>
    obtain rfl := Host.Outcome.next.inj he
    refine windowKept_serve fun b x => ?_
    simp only [readSiteOwner, readBadBlocksOwner]
    split
    · exact windowKept_respond _ _ x
    · exact windowKept_respondWith _ _ _ x
  | readFailLog => obtain rfl := Host.Outcome.next.inj he; exact windowKept_serve windowKept_readFailLog
  | snapshot => obtain rfl := Host.Outcome.next.inj he; exact windowKept_serve windowKept_snapshotOwner
  | readSnapshot => obtain rfl := Host.Outcome.next.inj he; exact windowKept_serve windowKept_readSnapshotOwner
  | pause => obtain rfl := Host.Outcome.next.inj he; exact windowKept_serve fun b x => windowKept_guarded (windowKept_acceptPause b x)
  | resume => obtain rfl := Host.Outcome.next.inj he; exact windowKept_serve windowKept_resumeOwner
  | abort => obtain rfl := Host.Outcome.next.inj he; exact windowKept_serve windowKept_abortOwner
  | raiseAlert | clearAlert =>
    obtain rfl := Host.Outcome.next.inj he
    exact windowKept_serve fun b x => .trans windowKept_of_eq (windowKept_respond b .ok _)
  | contact mask => obtain rfl := Host.Outcome.next.inj he; exact windowKept_takeContact mask s
  | accept => obtain rfl := Host.Outcome.next.inj he; exact windowKept_takeAccept s
  | result es => obtain rfl := Host.Outcome.next.inj he; exact windowKept_takeResult es s
  | ready mask n => obtain rfl := Host.Outcome.next.inj he; exact windowKept_takeReady mask n s
  | alarmSiteOvercurrent i => obtain rfl := Host.Outcome.next.inj he; exact windowKept_takeOvercurrent i s
  | alarmHeadFault => obtain rfl := Host.Outcome.next.inj he; exact windowKept_takeHeadFault s
  | replyDeadline => obtain rfl := Host.Outcome.next.inj he; exact windowKept_passDeadline s
  | highLimitExpiry i => obtain rfl := Host.Outcome.next.inj he; exact windowKept_passHighLimit i s
  | dwellExpiry => obtain rfl := Host.Outcome.next.inj he; exact windowKept_passDwell s
  | syncTimeout => obtain rfl := Host.Outcome.next.inj he; exact windowKept_passSyncTimeout s
  | supplyWaitExpiry => obtain rfl := Host.Outcome.next.inj he; exact windowKept_passSupplyWait s
  | resumeGuardExpiry => obtain rfl := Host.Outcome.next.inj he; exact windowKept_passResumeGuard s
  | rollWindowExpiry => obtain rfl := Host.Outcome.next.inj he; exact windowKept_passRollWindow s
  | frameStart => obtain rfl := Host.Outcome.next.inj he; exact (linkSideOnly_startFrame s).windowKept
  | arbitrationLost => obtain rfl := Host.Outcome.next.inj he; exact WindowKept.settled (linkSideOnly_loseAttempt s).windowKept
  | frameVoid => obtain rfl := Host.Outcome.next.inj he; exact WindowKept.settled (linkMoves_voidAttempt s).moves.windowKept
  | release | withdraw | leave | state | roll | mark | wait | claim =>
    obtain rfl := Host.Outcome.next.inj he
    exact windowKept_carried _ _ s
  | alertRise => obtain rfl := Host.Outcome.next.inj he; exact windowKept_alertRises s
  | alertFall => obtain rfl := Host.Outcome.next.inj he; exact windowKept_ite (.refl s) windowKept_of_eq
  | railFail => obtain rfl := Host.Outcome.next.inj he; exact windowKept_railFails s

/-- Settles O50: a tick leaves the window memory, and every command stores into it only by stores that keep the canonical form. -/
theorem memoryStaysCanonical : Obligations.MemoryStaysCanonical := by
  intro s t h hst
  unfold step at hst
  split at hst
  · obtain rfl := Host.Outcome.next.inj hst
    exact (windowKept_elapse 1 s).memory h
  next c rest _ => exact (windowKept_exec (s := s.withPending rest) hst).memory h

/-! ## Every well-formed command answers -/

/-- A write outside the window is a fault (log 25). -/
theorem exec_windowWrite_outside {offset : Nat} (h : 0x1000 ≤ offset) (v : Byte) (s : State) :
    exec (.windowWrite offset v) s = .fault .windowOffset := if_pos h

/-- A write inside the window has a next state: that of a cell's byte, or of the area (R177). -/
theorem exec_windowWrite_inside {offset : Nat} (h : offset < 0x1000) (v : Byte) (s : State) :
    ∃ t, exec (.windowWrite offset v) s = .next t := by
  have inside : ¬ Config.windowSize ≤ offset := Nat.not_le.mpr h
  show ∃ t, execWindowWrite offset v s = .next t
  unfold execWindowWrite
  rw [if_neg inside]
  split
  · exact ⟨_, rfl⟩
  · split
    · exact ⟨_, rfl⟩
    · split
      · exact ⟨_, rfl⟩
      · split <;> exact ⟨_, rfl⟩

/-- Settles O3: only a WINDOW_WRITE can be answered otherwise than by a next state, and no command touches the queue. -/
theorem commandsAnswered : Obligations.CommandsAnswered := by
  refine ⟨fun c s wellFormed => ?_, fun offset v s outside => exec_windowWrite_outside outside v s,
    fun c s t h => (windowKept_exec h).pending⟩
  cases c with
  | windowWrite offset v => exact exec_windowWrite_inside (of_decide_eq_true wellFormed) v s
  | _ => exact ⟨_, rfl⟩

end Sys2Proof.Machine
end

section
/-! The bytes of the window: what a write stores, a post's block queued or completed at once, and a completion's two bytes and its notice
(R177 to R180, R183, R185). -/

namespace Sys2Proof.Machine

/-! ## Stores and completions -/

/-- A store inside the area shows at its own byte alone. -/
theorem readArea_writeArea_inside {a : Nat} (v : Byte) {s : State} (hm : MemoryCanonical s) (ha : inArea a = true) (x : Nat) :
    readArea (writeArea a v s) x = if x = a then v else readArea s x := by
  rw [readArea_writeArea a v x hm]
  exact if_congr (and_iff_left ha) rfl rfl

/-- The 64 bytes of a posted block lie in the area (R177, R178). -/
theorem inArea_of_postValid {o k : Nat} (h : postValid o = true) (hk : k < 64) : inArea (o + k) = true := by
  obtain ⟨-, first, last⟩ := (postValid_iff o).mp h
  exact (inArea_iff _).mpr ⟨by omega, by omega⟩

/-- What the window shows once a posted block has been completed: its response code and its done flag 0 (R183). -/
theorem readArea_respond {b : Block} (r : Response) {s : State} (hm : MemoryCanonical s) (hp : postValid b.offset = true) (a : Nat) :
    readArea (respond b r s) a = if a = b.offset + 2 then 0 else if a = b.offset + 1 then r.code else readArea s a := by
  have flag : inArea (b.offset + 2) = true := inArea_of_postValid hp (by omega)
  have code : inArea (b.offset + 1) = true := inArea_of_postValid hp (by omega)
  refine ((completed_respond b r s).read hm a).trans ?_
  exact if_congr (and_iff_left flag) rfl (if_congr (and_iff_left code) rfl rfl)

/-- The CWC after a completion: the window memory, and the attention count raised for a block that asks for notice (R185). -/
theorem respond_cwc_eq (b : Block) (r : Response) (s : State) : (respond b r s).cwc = { s.cwc with
    mem := (respond b r s).cwc.mem
    attention := if b.notify = 0 then s.cwc.attention else min 65535 (s.cwc.attention + 1) } := congrArg State.cwc (respond_eq b r s)

/-! ## The two cells -/

/-- The second byte of the attention cell acknowledges the value of the two bytes (R185). -/
theorem attentionSecondByte_eq (v : Byte) (s : State) : attentionSecondByte v s =
    s.withCwc { s.cwc with attention := s.cwc.attention - (256 * s.cwc.attentionHeld.toNat + v.toNat) } := by
  unfold attentionSecondByte
  rw [append_toNat]
  rfl

/-- A write that names no byte of the two cells is a store (R177). -/
theorem exec_windowWrite_area {a : Nat} (v : Byte) (s : State) (inside : a < 0x1000) (noCell : a < 0x40 ∨ 0x44 ≤ a) :
    exec (.windowWrite a v) s = .next (writeArea a v s) := by
  have inWindow : ¬ Config.windowSize ≤ a := Nat.not_le.mpr inside
  show execWindowWrite a v s = _
  unfold execWindowWrite
  rw [if_neg inWindow, if_neg (by omega), if_neg (by omega), if_neg (by omega), if_neg (by omega)]

/-- A store below the area changes nothing (R177). -/
theorem writeArea_below {a : Nat} (v : Byte) (s : State) (h : a < 0x100) : writeArea a v s = s :=
  if_neg fun ha => Nat.not_le.mpr h ((inArea_iff a).mp ha).1

theorem writeArea_cwc (a : Nat) (v : Byte) (s : State) : (writeArea a v s).cwc = { s.cwc with mem := (writeArea a v s).cwc.mem } := by
  obtain ⟨m, hm⟩ := writeArea_eq a v s
  rw [hm]

/-- Settles O4: a write of the area is one store, a write below it none, and each cell's byte is its own update. -/
theorem windowBytesWritten : Obligations.WindowBytesWritten := by
  refine ⟨fun a v s hm => ⟨fun low high => ?_, fun ignored => ?_⟩, fun v s => ⟨rfl, rfl, _, rfl, attentionSecondByte_eq v s, ?_⟩⟩
  · have area : inArea a = true := (inArea_iff a).mpr ⟨low, high⟩
    refine ⟨_, exec_windowWrite_area v s high (.inr (by omega)), readArea_writeArea_inside v hm area, ?_, onlyCwc_writeArea a v s⟩
    rw [writeArea_cwc]
  · rw [exec_windowWrite_area v s (by omega) (by omega), writeArea_below v s (by omega)]
  · rw [attentionOutput_iff, attentionSecondByte_eq]
    exact Nat.sub_pos_iff_lt

/-! ## Posts -/

/-- The post cell shows a value (R178). -/
def cellShown (value : BitVec 16) (s : State) : State := s.withCwc { s.cwc with postCell := value }

/-- The card when a valid post has been shown and its block's done flag set to 0xFF (R178). -/
def flagSet (value : BitVec 16) (s : State) : State := writeArea (value.toNat + 2) 0xFF (cellShown value s)

theorem takePost_valid {value : BitVec 16} (h : postValid value.toNat = true) (s : State) :
    takePost value s = enqueue (copyBlock value.toNat s) (flagSet value s) := if_pos h

/-- An invalid post is shown and counted (R178). -/
theorem takePost_invalid {value : BitVec 16} (h : postValid value.toNat = false) (s : State) :
    takePost value s = s.withCwc { s.cwc with postCell := value, badPosts := min 65535 (s.cwc.badPosts + 1) } :=
  if_neg (Bool.eq_false_iff.mp h)

/-- The code of a copied block is the byte at its offset. -/
theorem copyBlock_code (off : Nat) (s : State) : (copyBlock off s).code = readArea s off := rfl

theorem flagSet_cwc (value : BitVec 16) (s : State) :
    (flagSet value s).cwc = { s.cwc with mem := (flagSet value s).cwc.mem, postCell := value } := writeArea_cwc _ _ _

theorem onlyCwc_flagSet (value : BitVec 16) (s : State) : OnlyCwc s (flagSet value s) :=
  (onlyCwc_withCwc _ s).trans (onlyCwc_writeArea _ _ _)

theorem flagSet_canonical (value : BitVec 16) {s : State} (hm : MemoryCanonical s) : MemoryCanonical (flagSet value s) :=
  (windowKept_writeArea _ _ (cellShown value s)).memory hm

theorem readArea_flagSet {value : BitVec 16} {s : State} (hm : MemoryCanonical s) (hv : postValid value.toNat = true) (a : Nat) :
    readArea (flagSet value s) a = if a = value.toNat + 2 then 0xFF else readArea s a :=
  readArea_writeArea_inside (s := cellShown value s) 0xFF hm (inArea_of_postValid hv (by omega)) a

/-- A block of a known command whose queue has room goes to the end of that queue (R179). -/
theorem enqueue_room {b : Block} {c : Cmd} {s : State} (known : cmdOfCode b.code = some c)
    (room : if c.isPlan then s.cwc.plan.length < 8 else s.cwc.urgent.length < 4) : enqueue b s = s.withCwc { s.cwc with
      plan := if c.isPlan then s.cwc.plan ++ [b] else s.cwc.plan
      urgent := if c.isPlan then s.cwc.urgent else s.cwc.urgent ++ [b] } := by
  unfold enqueue
  simp only [known]
  cases hc : c.isPlan with
  | true => rw [hc, if_pos rfl] at room; exact (if_pos rfl).trans (if_pos room)
  | false => rw [hc, if_neg Bool.false_ne_true] at room; exact (if_neg Bool.false_ne_true).trans (if_pos room)

/-- A block of the code completes at its post with the response: the code is unknown, or its queue is full (R179). -/
def CompletesAtPost (code : Byte) (c : Cwc) (r : Response) : Prop :=
  cmdOfCode code = none ∧ r = .commandUnknown
  ∨ ∃ cmd, cmdOfCode code = some cmd ∧ r = .queueFull ∧ (if cmd.isPlan then 8 ≤ c.plan.length else 4 ≤ c.urgent.length)

theorem enqueue_completed {b : Block} {r : Response} {s : State} (h : CompletesAtPost b.code s.cwc r) :
    enqueue b s = respond b r s := by
  unfold enqueue
  rcases h with ⟨unknown, rfl⟩ | ⟨c, known, rfl, full⟩
  · simp only [unknown]
  · simp only [known]
    cases hc : c.isPlan with
    | true => rw [hc, if_pos rfl] at full; exact (if_pos rfl).trans (if_neg (Nat.not_lt.mpr full))
    | false => rw [hc, if_neg Bool.false_ne_true] at full; exact (if_neg Bool.false_ne_true).trans (if_neg (Nat.not_lt.mpr full))

/-- A valid post whose queue has room: the copy is at the end of its queue (R178, R179). -/
theorem takePost_queued {value : BitVec 16} {c : Cmd} {s : State} (valid : postValid value.toNat = true)
    (known : cmdOfCode (readArea s value.toNat) = some c)
    (room : if c.isPlan then s.cwc.plan.length < 8 else s.cwc.urgent.length < 4) :
    takePost value s = (flagSet value s).withCwc { s.cwc with
      mem := (flagSet value s).cwc.mem
      postCell := value
      plan := if c.isPlan then s.cwc.plan ++ [copyBlock value.toNat s] else s.cwc.plan
      urgent := if c.isPlan then s.cwc.urgent else s.cwc.urgent ++ [copyBlock value.toNat s] } := by
  have cwc := flagSet_cwc value s
  have queued := enqueue_room (b := copyBlock value.toNat s) (s := flagSet value s) known (by rw [cwc]; exact room)
  rw [takePost_valid valid, queued, cwc]

/-- A valid post that is completed at once (R179). -/
theorem takePost_completed {value : BitVec 16} {r : Response} {s : State} (valid : postValid value.toNat = true)
    (why : CompletesAtPost (readArea s value.toNat) s.cwc r) :
    takePost value s = respond (copyBlock value.toNat s) r (flagSet value s) := by
  have completes : CompletesAtPost (copyBlock value.toNat s).code (flagSet value s).cwc r := by
    rw [flagSet_cwc]
    exact why
  rw [takePost_valid valid, enqueue_completed completes]

/-- The response code and the done flag of a block completed at its post: the flag of the post, 0xFF, does not stand (R179, R183). -/
theorem readArea_completedAtPost {value : BitVec 16} (r : Response) {s : State} (hm : MemoryCanonical s)
    (valid : postValid value.toNat = true) (a : Nat) : readArea (respond (copyBlock value.toNat s) r (flagSet value s)) a =
      if a = value.toNat + 2 then 0 else if a = value.toNat + 1 then r.code else readArea s a := by
  refine (readArea_respond r (flagSet_canonical value hm) valid a).trans ?_
  rw [readArea_flagSet hm valid]
  show (if a = value.toNat + 2 then _ else if a = value.toNat + 1 then _ else _) = _
  by_cases flag : a = value.toNat + 2
  · rw [if_pos flag, if_pos flag]
  · simp only [if_neg flag]

/-- The second byte of the post cell completes the post of the two bytes' value, the held one first (R178). -/
theorem exec_post {v : Byte} {s t : State} (h : takePost (s.cwc.postHeld ++ v) s = t) : exec (.post v) s = .next t :=
  congrArg Host.Outcome.next h

/-- Settles O5: a post is shown; a valid one has its done flag set and then its copy queued or completed. -/
theorem postsTaken : Obligations.PostsTaken := by
  unfold Obligations.PostsTaken
  simp only [← append_toNat]
  refine ⟨fun v s c hm valid known room => ?_, fun v s hm => ⟨fun invalid => ?_, fun valid r why => ?_⟩⟩
  · exact ⟨_, copyBlock (s.cwc.postHeld ++ v).toNat s, exec_post (takePost_queued valid known room), rfl, rfl, rfl, rfl, rfl,
      readArea_flagSet hm valid, rfl, (onlyCwc_flagSet _ s).trans (onlyCwc_withCwc _ _)⟩
  · exact exec_post (takePost_invalid invalid s)
  · refine ⟨_, exec_post (takePost_completed valid why), readArea_completedAtPost r hm valid, ?_, ?_, ?_, ?_,
      (onlyCwc_flagSet _ s).trans (onlyCwc_respond _ _ _)⟩
    all_goals rw [respond_cwc_eq, flagSet_cwc]

/-! ## The block taken, and its completion -/

/-- Settles O6: the urgent queue is looked at first; a completion is two stores and the count raised when notice is asked for. -/
theorem blockTakenAndCompleted : Obligations.BlockTakenAndCompleted := by
  refine ⟨fun s b rest => ⟨fun urgent => ?_, fun urgent plan => ?_, fun urgent plan => ?_⟩, fun b r s hm valid => ?_⟩
  · unfold takeBlock; rw [urgent]; rfl
  · unfold takeBlock; rw [urgent, plan]; rfl
  · unfold takeBlock; rw [urgent, plan]
  · refine ⟨readArea_respond r hm valid, ?_, fun notice => ?_, ?_, onlyCwc_respond b r s⟩
    · rw [respond_cwc_eq]
    · rw [attentionOutput_iff, respond_cwc_eq]
      show 0 < if b.notify = 0 then s.cwc.attention else min 65535 (s.cwc.attention + 1)
      rw [if_neg notice]
      omega
    · rw [respond_cwc_eq]

end Sys2Proof.Machine
end

section
/-! The step on a queue that is not empty, beside `step_empty` for the one that is. -/

namespace Sys2Proof.Machine

/-- Settles O1: the front of the queue selects the second case of `step`, as an empty queue selects the first in `step_empty`. -/
theorem stepTakesFront : Obligations.StepTakesFront := by
  intro c rest s front
  unfold step
  rw [front]

end Sys2Proof.Machine
end

section
/-! The marking of a SYNC step, its passing condition, and the report of its passing taken or held (R70, R161, R162). -/

namespace Sys2Proof.Machine

/-! ## The passing condition -/

/-- The passing condition by the peer table: the own entry and every other entry of the group are at the mark (R161). -/
theorem passingCondition_iff (s : State) (g : Group) (m : Nat) : passingCondition s g m = true ↔
    atMark s s.link.own g m = true ∧ ∀ x : Station, s.peers[x].group = some g → atMark s x g m = true := by
  unfold passingCondition
  rw [Bool.and_eq_true, List.all_eq_true]
  refine and_congr_right fun _ => forall_congr' fun x => ?_
  have listed : x ∈ allStations := List.mem_finRange x
  simp only [listed, forall_const, Bool.or_eq_true, bne_iff_ne, ne_eq]
  exact Decidable.imp_iff_not_or.symm

/-! ## The report of a passed step -/

/-- A RUNNING run at its SYNC step exits the step when it is reported passed (R70). -/
theorem syncPassed_exits {s : State} (running : s.run.seq = .running) (notEnding : s.run.ending = none) (here : s.run.stage = .sync) :
    syncPassed s = s.withRun { s.run with phase := .exit, stage := .exit } := by
  unfold syncPassed
  rw [running]
  exact if_pos ⟨notEnding, here⟩

/-- A PAUSING or PAUSED run holds the report, be it ending or not (R162). -/
theorem syncPassed_held {s : State} (h : s.run.seq = .pausing ∨ s.run.seq = .paused) :
    syncPassed s = s.withRun { s.run with heldSyncPass := true } := by
  unfold syncPassed
  rcases h with seq | seq <;> rw [seq] <;> rfl

/-- A RUNNING run that is ending exits no step (log 15). -/
theorem syncPassed_ending {s : State} (running : s.run.seq = .running) (ending : s.run.ending ≠ none) : syncPassed s = s := by
  unfold syncPassed
  rw [running]
  exact if_neg fun h => ending h.1

/-! ## An evaluation -/

/-- The card once nothing is awaited any more (R161). -/
def awaitOver (s : State) : State := s.withSync { s.sync with awaited := none }

/-- An evaluation that finds the condition holding awaits nothing any more and reports the step passed (R161). -/
theorem evaluateSync_passed {s : State} {g : Group} {m : Nat} (awaits : s.sync.awaited = some m) (group : waitGroup s = some g)
    (holds : passingCondition s g m = true) : evaluateSync s = syncPassed (awaitOver s) := by
  unfold evaluateSync
  rw [awaits, group]
  exact if_pos holds

/-- The step exits when an evaluation of a RUNNING run at its SYNC step finds the condition holding (R70). -/
theorem evaluateSync_exits {s : State} {g : Group} {m : Nat} (awaits : s.sync.awaited = some m) (group : waitGroup s = some g)
    (holds : passingCondition s g m = true) (running : s.run.seq = .running) (notEnding : s.run.ending = none)
    (here : s.run.stage = .sync) : evaluateSync s = (awaitOver s).withRun { s.run with phase := .exit, stage := .exit } :=
  (evaluateSync_passed awaits group holds).trans (syncPassed_exits running notEnding here)

/-- The report is held when an evaluation of a PAUSING or PAUSED run finds the condition holding (R162). -/
theorem evaluateSync_held {s : State} {g : Group} {m : Nat} (awaits : s.sync.awaited = some m) (group : waitGroup s = some g)
    (holds : passingCondition s g m = true) (pause : s.run.seq = .pausing ∨ s.run.seq = .paused) :
    evaluateSync s = (awaitOver s).withRun { s.run with heldSyncPass := true } :=
  (evaluateSync_passed awaits group holds).trans (syncPassed_held pause)

/-- An evaluation that finds the condition failing changes nothing (R161). -/
theorem evaluateSync_failed {s : State} {g : Group} {m : Nat} (awaits : s.sync.awaited = some m) (group : waitGroup s = some g)
    (fails : passingCondition s g m = false) : evaluateSync s = s := by
  unfold evaluateSync
  rw [awaits, group]
  exact if_neg (Bool.eq_false_iff.mp fails)

/-- A station that waits for no mark, or in no group, evaluates nothing (R161). -/
theorem evaluateSync_unawaited {s : State} (h : waitGroup s = none ∨ s.sync.awaited = none) : evaluateSync s = s := by
  unfold evaluateSync
  rcases h with group | awaits
  · rw [group]; cases s.sync.awaited <;> rfl
  · rw [awaits]

/-! ## The marking -/

/-- A station that is no member passes its SYNC step at once (R161). -/
theorem markStep_single {s : State} (single : s.sync.ownGroup = none) : markStep s = syncPassed s := by
  unfold markStep
  rw [single]

/-- A member's mark count rises, its MARK is handed over and awaited, and the condition is evaluated (R161). -/
theorem markStep_member {s : State} {g : Group} (member : s.sync.ownGroup = some g) :
    markStep s = evaluateSync (handFrame (.mark g (s.sync.markCount + 1)) (s.withSync (markedSync s.sync))) := by
  unfold markStep
  rw [member]
  rfl

/-! ## A MARK of another station -/

theorem RailMove.sync {s t : State} (h : RailMove s t) : t.sync = s.sync := by
  cases h with
  | hand f => exact handFrame_sync f s
  | remove => rfl
  | rail => rfl

theorem RailMoves.sync {s t : State} (h : RailMoves s t) : t.sync = s.sync := by
  induction h with
  | refl => rfl
  | tail _ move ih => exact move.sync.trans ih

/-- A lost attempt is no matter of the Sync Unit (R122). -/
theorem loseAttempt_sync (s : State) : (loseAttempt s).sync = s.sync := by
  cases line : s.link.attempt with
  | none => unfold loseAttempt; rw [line]
  | some a => exact (railMoves_loseAttempt line).sync

/-- The card with a station's MARK in the peer table, and nothing else (R158). -/
def markEntered (x : Station) (g : Group) (k : Nat) (s : State) : State :=
  s.withPeers (s.peers.set x { s.peers[x] with present := true, group := some g, lastMark := some k })

/-- What a carried MARK does before its evaluation (R124, R158). -/
theorem markEntered_eq (x : Station) (g : Group) (k : Nat) (s : State) :
    applyFrame x (.mark g k) (takePresence x (.mark g k) s) = markEntered x g k s := by
  show updPeer x (fun e => { e with group := some g, lastMark := some k }) (updPeer x (fun e => { e with present := true }) s) = _
  unfold updPeer markEntered State.withPeers
  simp

/-- A MARK of another station is entered in its entry, and the passing condition is evaluated (R158, R161). -/
theorem takeFrame_mark {x : Station} {s : State} (hears : linkHears s = true) (other : x ≠ s.link.own) (g : Group) (k : Nat) :
    takeFrame x (.mark g k) s = evaluateSync (markEntered x g k (loseAttempt s)) := by
  rw [takeFrame_other hears other, if_neg (by nofun), ← markEntered_eq]
  rfl

/-- The condition reads the same of a MARK entered after the attempt on the line was lost as of one entered before. -/
theorem passingCondition_loseAttempt (x : Station) (g h : Group) (k m : Nat) (s : State) :
    passingCondition (markEntered x g k (loseAttempt s)) h m = passingCondition (markEntered x g k s) h m := by
  have tables := (steady_loseAttempt s).1.toTablesKept
  have peers : (markEntered x g k (loseAttempt s)).peers = (markEntered x g k s).peers := by
    unfold markEntered
    rw [tables.peers]
    rfl
  exact passingCondition_congr peers (by exact tables.own) h m

/-- The command that brings another station's MARK evaluates on a card whose run and Sync Unit are as they were, with that MARK in the
peer table that the condition reads (R124, R158, R161). -/
theorem exec_mark_evaluates {x : Station} {mark : Byte} {s : State} (hears : linkHears s = true) (other : x ≠ s.link.own) (g : Group)
    (range : mark.toNat ≤ 128) : ∃ v, v.run = s.run ∧ v.sync = s.sync
      ∧ (∀ h m, passingCondition v h m = passingCondition (markEntered x g mark.toNat s) h m)
      ∧ exec (.mark x (BitVec.ofNat 8 g) mark) s = .next (settle (evaluateSync v)) := by
  refine ⟨markEntered x g mark.toNat (loseAttempt s), (linkSideOnly_loseAttempt s).run, loseAttempt_sync s,
    fun h m => passingCondition_loseAttempt x g h _ m s, ?_⟩
  rw [exec_frameOf (frameOf_mark range), takeFrame_mark hears other]

/-! ## A PAUSED run settles -/

/-- Nothing but the unit in flight differs in the run, and the Sync Unit is the same. -/
def PauseStands (s t : State) : Prop := (∃ f, t.run = { s.run with inflight := f }) ∧ t.sync = s.sync

theorem PauseStands.trans {s t u : State} (h : PauseStands s t) (h' : PauseStands t u) : PauseStands s u := by
  obtain ⟨⟨_, run⟩, sync⟩ := h
  obtain ⟨⟨f, run'⟩, sync'⟩ := h'
  exact ⟨⟨f, by rw [run', run]⟩, sync'.trans sync⟩

theorem pauseStands_hciDue {s t : State} (h : hciDue s = some t) : PauseStands s t := by
  refine ⟨?_, (linkSame_hciDue h).sync⟩
  obtain ⟨_, ⟨_, rfl⟩ | ⟨r, _, _, abandon, other⟩⟩ := hciDue_cases h
  · exact ⟨_, rfl⟩
  · by_cases hr : r = .abandon
    · rw [abandon hr]; exact ⟨none, rfl⟩
    · rw [other hr]; exact ⟨_, rfl⟩

theorem pauseStands_unitDue {s t : State} (h : unitDue s = some t) : PauseStands s t := by
  unfold unitDue at h
  split at h
  · obtain ⟨_, h⟩ := Option.ite_none_right_eq_some.mp h
    cases h
    exact ⟨⟨none, rfl⟩, rfl⟩
  · cases h

/-- A PAUSED run that is not ending has no action of its own: the head goes on, and the run stands but for its unit in flight (R78). -/
theorem pauseStands_settle {s : State} (paused : s.run.seq = .paused) (notEnding : s.run.ending = none) : PauseStands s (settle s) := by
  refine settle_keeps (P := PauseStands s) (fun t u due stands => ?_) s ⟨⟨_, rfl⟩, rfl⟩
  rcases nextAction_cases due with sends | ⟨_, resolves⟩ | ⟨_, _, goes⟩
  · exact stands.trans (pauseStands_hciDue sends)
  · exact stands.trans (pauseStands_unitDue resolves)
  · obtain ⟨⟨f, run⟩, _⟩ := stands
    rw [sequencerDue_paused (by rw [run]; exact paused) (by rw [run]; exact notEnding)] at goes
    cases goes

/-! ## The obligation -/

/-- Settles O47: the marking, an evaluation by the condition and the state of the run, and the evaluation that another station's MARK
brings about. -/
theorem syncStepMarked : Obligations.SyncStepMarked := by
  refine ⟨fun g m s => ?condition, fun s running notEnding here => ⟨fun single => ?single, fun g member sends => ?member⟩,
    fun s => ⟨fun g m group awaits holds => ⟨?exits, ?holds, ?ending⟩, fun g m group awaits => ?failed, fun h => ?unawaited⟩,
    fun x g m k mark s u hears other range count member awaits notEnding hu => ?carried⟩
  case condition =>
    rw [passingCondition_iff, atMark_iff]
    exact and_congr_right fun _ => forall_congr' fun x => imp_congr_right fun inGroup =>
      (atMark_iff s x g m).trans (and_iff_right inGroup)
  case single => rw [markStep_single single, syncPassed_exits running notEnding here]
  case member =>
    rw [markStep_member member]
    exact congrArg evaluateSync (if_pos sends)
  case exits => exact fun notEnding running here => evaluateSync_exits awaits (waitGroup_eq group) holds running notEnding here
  case holds => exact fun pause => evaluateSync_held awaits (waitGroup_eq group) holds pause
  case ending =>
    exact fun ending running => (evaluateSync_passed awaits (waitGroup_eq group) holds).trans (syncPassed_ending running ending)
  case failed => exact evaluateSync_failed awaits (waitGroup_eq group)
  case unawaited => exact evaluateSync_unawaited (h.imp_left fun ⟨left, alone⟩ => (waitGroup_of_left left).trans alone)
  case carried =>
    subst count hu
    obtain ⟨v, run, sync, condition, event⟩ := exec_mark_evaluates hears other g range
    have awaiting : v.sync.awaited = some m := by rw [sync]; exact awaits
    have group : waitGroup v = some g := waitGroup_of_member (by rw [sync]; exact member)
    have ended : (awaitOver v).sync = { s.sync with awaited := none } := by rw [← sync]; rfl
    refine ⟨fun holds running here => ?_, fun holds paused => ?_, fun fails => ?_⟩
    · have passed := evaluateSync_exits awaiting group ((condition g m).trans holds) (by rw [run]; exact running)
        (by rw [run]; exact notEnding) (by rw [run]; exact here)
      rw [passed, run] at event
      exact ⟨_, event, rfl, ended⟩
    · have passed := evaluateSync_held awaiting group ((condition g m).trans holds) (by rw [run]; exact .inr paused)
      rw [passed, run] at event
      obtain ⟨⟨f, stands⟩, settled⟩ :=
        pauseStands_settle (s := (awaitOver v).withRun { s.run with heldSyncPass := true }) paused notEnding
      exact ⟨_, event, by rw [stands]; exact paused, by rw [stands]; rfl, settled.trans ended⟩
    · rw [evaluateSync_failed awaiting group ((condition g m).trans fails)] at event
      exact ⟨v, event, run, sync⟩

end Sys2Proof.Machine
end
